-- ==== Sys2Proof/Word.lean ====
section
/-! DEFINITION. The word types of YMC and the three-element array every per-chip and per-voice element uses.
Widths: 00_scope.md R6, R9; 10_state.md. -/

namespace Sys2Proof

/-- One byte of a frame, of a chip register, of the data lines (R9, R69). -/
abbrev Byte := BitVec 8

/-- A host command word (30_encoding.md R95). -/
abbrev HostWord := BitVec 32

/-- A chip index 0..2 (R6, R13). -/
abbrev Chip := Fin 3

/-- A voice index: 0 (A), 1 (B), 2 (C) (R6, R13). -/
abbrev Voice := Fin 3

/-- A chip register address on the bus, 0..31 (R6: "`registerAddress & 0x1F`"). -/
abbrev RegAddr := BitVec 5

/-- A 3-line select code (R105). -/
abbrev SelCode := BitVec 3

/-- A serial frame: `F[i]` is the byte at offset i, 0..16 (R81). -/
abbrev Frame := Vector Byte 17

/-- Three like things, indexed by chip or by voice. -/
structure Triple (α : Type) where
  e0 : α
  e1 : α
  e2 : α
deriving DecidableEq, Repr

/-- Element `i`. -/
def Triple.get {α : Type} (t : Triple α) : Fin 3 → α
  | 0 => t.e0
  | 1 => t.e1
  | 2 => t.e2

/-- The array with element `i` replaced. -/
def Triple.set {α : Type} (t : Triple α) : Fin 3 → α → Triple α
  | 0, x => { t with e0 := x }
  | 1, x => { t with e1 := x }
  | 2, x => { t with e2 := x }

/-- Three copies of one value. -/
def Triple.replicate {α : Type} (x : α) : Triple α := ⟨x, x, x⟩

/-- Every element through one function. -/
def Triple.map {α β : Type} (f : α → β) (t : Triple α) : Triple β := ⟨f t.e0, f t.e1, f t.e2⟩

end Sys2Proof
end

