-- ==== Sys2Proof/Config.lean ====
section
/-! DEFINITION. The build-time parameters of 00_scope.md R7 and the one free value.
R7: "A model takes each one as an argument." `exec` and `step` have no argument for them, so they stand in `State.cfg`,
which no step changes: a statement about every state is a statement about every choice of them (log 1).
What is computed from them is in Machine/Tables.lean and Machine/Timing.lean. -/

namespace Sys2Proof

/-- The scheduler mode `MODE` and the strap `cfg_mode`: 0 = DIRECT, 1 = RR (10_state.md R21). -/
inductive Mode where
  | direct
  | rr
deriving DecidableEq, Repr

/-- `TS_POLICY`, the timer-synth deactivation policy (R7, D15). -/
inductive TsPolicy where
  | exclusive
  | persist
deriving DecidableEq, Repr

/-- `ARB_FG`, the foreground arbitration order (R7, D24). -/
inductive ArbFg where
  | frameFirst
  | hostFirst
deriving DecidableEq, Repr

/-- The parameters of 00_scope.md R7. Their constraints are `Config.Wf` (Machine/Tables.lean). -/
structure Config where
  /-- `F_CLK_HZ`. -/
  fClkHz : Nat
  /-- `T_SEL_NS`, the select pulse. -/
  tSelNs : Nat
  /-- `T_SU_NS`, data setup. -/
  tSuNs : Nat
  /-- `T_APW_NS`, address strobe width. -/
  tApwNs : Nat
  /-- `T_DPW_NS`, data strobe width. -/
  tDpwNs : Nat
  /-- `T_HD_NS`, data hold. -/
  tHdNs : Nat
  /-- `SEL_MAP`. -/
  selMap : Triple SelCode
  /-- `SEL_NONE`. -/
  selNone : SelCode
  /-- `PRESCALER[0..7]`. -/
  prescaler : Vector Byte 8
  /-- `SAMPLE_LEN[0..31]`. -/
  sampleLen : Vector (BitVec 16) 32
  /-- `SAMPLE_DATA(id, i)`, the bytes of each sample. -/
  sampleData : Vector (List Byte) 32
  /-- `TICK_PERIOD_DIRECT`. -/
  tickPeriodDirect : Nat
  /-- `TICK_PERIOD_RR`. -/
  tickPeriodRr : Nat
  /-- `RX_TIMEOUT`. -/
  rxTimeout : Nat
  /-- `TS_POLICY`. -/
  tsPolicy : TsPolicy
  /-- `ARB_FG`. -/
  arbFg : ArbFg
deriving DecidableEq, Repr

/-- DESIGN CHOICE (log 1): the parameters `State.reset` stands on. Where R7 gives a default or DOC a value, that one
(`SEL_MAP`, `SEL_NONE`, `PRESCALER[3]`, `TS_POLICY`, `ARB_FG`); every OPEN parameter has the value of the spec's own,
not normative, TCFG (95_test_vectors.md section 0). The clock and the nanoseconds are chosen to give TCFG's cycle counts
1, 1, 2, 2, 1. -/
def Config.tcfg : Config where
  fClkHz := 5000000
  tSelNs := 200
  tSuNs := 200
  tApwNs := 400
  tDpwNs := 400
  tHdNs := 200
  selMap := ⟨0b001, 0b010, 0b100⟩
  selNone := 0b000
  prescaler := #v[0, 4, 10, 16, 50, 64, 100, 200]
  sampleLen := #v[4, 3, 0, 0, 0, 2, 0, 0, 0, 0, 0, 0, 0, 0, 0, 0, 0, 0, 0, 0, 0, 0, 0, 0, 0, 0, 0, 0, 0, 0, 0, 0]
  sampleData := #v[[0x0A, 0x15, 0xF3, 0x07], [0x01, 0x02, 0x03], [], [], [], [0x4C, 0x8E], [], [], [], [], [], [], [], [], [], [], [], [], [], [], [], [], [], [], [], [], [], [], [], [], [], []]
  tickPeriodDirect := 200
  tickPeriodRr := 130
  rxTimeout := 20
  tsPolicy := .exclusive
  arbFg := .frameFirst

/-- FREE VALUE (log 5): what a read of `SAMPLE_DATA(id, i)` gives where the sample has no byte `i`. R66 says such a read
never happens, and R30 is why; in a state that breaks R30 the value is left open. -/
opaque Config.sampleBeyond : BitVec 5 → BitVec 16 → Byte

end Sys2Proof
end

