-- ==== Sys2Proof/Syntax.lean ====
section
/-! DEFINITION. The operations of YMC, one constructor per row of spec/opcode_table.json (00_scope.md R2).
Host commands keep their fields as the word has them (30_encoding.md R95): CHIP = 3 and a REG without a shadow are
words of the row that the value checks of R97 reject, so they are terms here, ill-formed ones (WellFormed.lean). -/

namespace Sys2Proof

/-- The operations (R2): host commands (R96), the serial frame and its two slots (R178, R184, R185), the two forms of a
scheduler activation (R227, R228). -/
inductive Instr where
  /-- NOP (R132). -/
  | nop
  /-- SELECT (R134). -/
  | select (chip : BitVec 2)
  /-- WRITE (R135). -/
  | write (chip : BitVec 2) (reg : RegAddr) (data : Byte)
  /-- WRITE_FAST (R136). -/
  | writeFast (chip : BitVec 2) (reg : RegAddr) (data : Byte)
  /-- RMW (R139): DATA is the OR-mask, AUX the AND-mask. -/
  | rmw (chip : BitVec 2) (reg : RegAddr) (orMask andMask : Byte)
  /-- READ_SHADOW (R141). -/
  | readShadow (chip : BitVec 2) (reg : RegAddr)
  /-- READ_STATUS (R142). -/
  | readStatus
  /-- RESERVED_OP_7 (R143), with whatever bits [27:0] hold. -/
  | reservedOp7 (low : BitVec 28)
  /-- RESERVED_OP_8 (R143). -/
  | reservedOp8 (low : BitVec 28)
  /-- RESERVED_OP_9 (R143). -/
  | reservedOp9 (low : BitVec 28)
  /-- RESERVED_OP_A (R143). -/
  | reservedOpA (low : BitVec 28)
  /-- RESERVED_OP_B (R143). -/
  | reservedOpB (low : BitVec 28)
  /-- RESERVED_OP_C (R143). -/
  | reservedOpC (low : BitVec 28)
  /-- RESERVED_OP_D (R143). -/
  | reservedOpD (low : BitVec 28)
  /-- RESERVED_OP_E (R143). -/
  | reservedOpE (low : BitVec 28)
  /-- RESERVED_OP_F (R143). -/
  | reservedOpF (low : BitVec 28)
  /-- FRAME (R178), the 17 bytes. -/
  | frame (bytes : Frame)
  /-- SLOT1 (R184): the timer-synth slot of a frame for `chip`, fields V1, P1, C1 of R86. -/
  | slot1 (chip : Chip) (voice : BitVec 2) (presc : BitVec 3) (count : Byte)
  /-- SLOT2 (R185): the sample slot of a frame for `chip`, fields V2, P2, C2, ID2 of R87. -/
  | slot2 (chip : Chip) (voice : BitVec 2) (presc : BitVec 3) (count : Byte) (id : BitVec 5)
  /-- TICK_DIRECT (R227). -/
  | tickDirect
  /-- TICK_RR (R228). -/
  | tickRr
deriving DecidableEq, Repr

end Sys2Proof
end

