-- ==== Sys2Proof/WellFormed.lean ====
section
/-! DEFINITION. Which operations are well formed: the value checks that no mask expresses and that need no state
(30_encoding.md R85, R97), and the one canonical choice the SLOT2 operands need (log 14). -/

namespace Sys2Proof

/-- CHIP names a chip: 3 is rejected with `E_BADCHIP` (R97). -/
def chipOk (chip : BitVec 2) : Bool := decide (chip ≠ 3)

/-- REG is one of 7, 8, 9, 10, 14, 15: any other is rejected with `E_NOSHADOW` for RMW and READ_SHADOW (R97). -/
def regShadowed (reg : RegAddr) : Bool :=
  decide (reg = 7 ∨ reg = 8 ∨ reg = 9 ∨ reg = 10 ∨ reg = 14 ∨ reg = 15)

/-- A frame is valid only if `F[0] <= 2` (R85). -/
def frameOk (f : Frame) : Bool := decide (f[0].toNat ≤ 2)

/-- ID2 is read only when V2 names a voice (R182); with V2 = 0 the operand is kept at 0 (log 14). -/
def sampleIdOk (voice : BitVec 2) (id : BitVec 5) : Bool := decide (voice ≠ 0 ∨ id = 0)

/-- The static checks of R97 and R85, for every constructor. -/
def Instr.wf : Instr → Bool
  | .nop => true
  | .select chip => chipOk chip
  | .write chip _ _ => chipOk chip
  | .writeFast chip _ _ => chipOk chip
  | .rmw chip reg _ _ => chipOk chip && regShadowed reg
  | .readShadow chip reg => chipOk chip && regShadowed reg
  | .readStatus => true
  | .reservedOp7 _ => true
  | .reservedOp8 _ => true
  | .reservedOp9 _ => true
  | .reservedOpA _ => true
  | .reservedOpB _ => true
  | .reservedOpC _ => true
  | .reservedOpD _ => true
  | .reservedOpE _ => true
  | .reservedOpF _ => true
  | .frame bytes => frameOk bytes
  | .slot1 _ _ _ _ => true
  | .slot2 _ voice _ _ id => sampleIdOk voice id
  | .tickDirect => true
  | .tickRr => true

end Sys2Proof
end

