-- ==== Sys2Proof/Decode.lean ====
section
/-! DEFINITION. The decoder, total on any host word and any bytes, rejecting by name, and after it the encoder.
30_encoding.md: host word R95 to R101, frame R80 to R94, slot fields R86 to R90 and R182, tick R102. -/

namespace Sys2Proof

/-- Why a decoder refuses. -/
inductive DecodeError where
  /-- A must-be-zero bit of R96 is set: the word matches no row, `E_RSVD` (R96, R98 check 2). -/
  | reservedBits
  /-- Fewer than 17 bytes: a partial frame, `RX_SHORT` (R94, R173). -/
  | shortFrame
  /-- `F[0] >= 3`: `RX_BADCHIP` (R85, R174). -/
  | badChip
deriving DecidableEq, Repr

/-- What YMC takes work from (30_encoding.md, opening): a host word, bytes of the serial stream, a tick event; and, for
the two slots, the frame whose bytes hold their fields. -/
inductive Encoded where
  | word (w : HostWord)
  | bytes (bs : List Byte)
  | slot1 (f : Frame)
  | slot2 (f : Frame)
  | tick (m : Mode)
deriving DecidableEq, Repr

/-! ### The host word -/

/-- `OP`, W[31:28] (R95). -/
def opOf (w : HostWord) : BitVec 4 := w.extractLsb' 28 4

/-- `CHIP`, W[27:26] (R95). -/
def chipOf (w : HostWord) : BitVec 2 := w.extractLsb' 26 2

/-- `REG`, W[25:21] (R95). -/
def regOf (w : HostWord) : RegAddr := w.extractLsb' 21 5

/-- `DATA`, W[15:8] (R95). -/
def dataOf (w : HostWord) : Byte := w.extractLsb' 8 8

/-- `AUX`, W[7:0] (R95). -/
def auxOf (w : HostWord) : Byte := w.extractLsb' 0 8

/-- W[27:0], what a reserved opcode carries without meaning (R143). -/
def lowOf (w : HostWord) : BitVec 28 := w.extractLsb' 0 28

/-- One row of the opcode map (R96). -/
structure HostRow where
  pattern : HostWord
  mask : HostWord
deriving DecidableEq, Repr

/-- "A word matches a row when `(W & mask) == match`" (R96). -/
def HostRow.matches (row : HostRow) (w : HostWord) : Bool := decide (w &&& row.mask = row.pattern)

def rowNop : HostRow := ⟨0x00000000, 0xFFFFFFFF⟩
def rowSelect : HostRow := ⟨0x10000000, 0xF3FFFFFF⟩
def rowWrite : HostRow := ⟨0x20000000, 0xF01F00FF⟩
def rowWriteFast : HostRow := ⟨0x30000000, 0xF01F00FF⟩
def rowRmw : HostRow := ⟨0x40000000, 0xF01F0000⟩
def rowReadShadow : HostRow := ⟨0x50000000, 0xF01FFFFF⟩
def rowReadStatus : HostRow := ⟨0x60000000, 0xFFFFFFFF⟩

/-- The row's operation when the word matches the row, otherwise `E_RSVD`: "A word whose `OP` is in 0x0..0x6 but which
has a must-be-zero bit set matches no row" (R96). -/
def decodeRow (row : HostRow) (w : HostWord) (i : Instr) : Except DecodeError Instr :=
  if row.matches w then .ok i else .error .reservedBits

/-- The host decoder (R96, R98 checks 1 and 2, R100). -/
def decodeHost (w : HostWord) : Except DecodeError Instr :=
  match opOf w with
  | 0x0 => decodeRow rowNop w .nop
  | 0x1 => decodeRow rowSelect w (.select (chipOf w))
  | 0x2 => decodeRow rowWrite w (.write (chipOf w) (regOf w) (dataOf w))
  | 0x3 => decodeRow rowWriteFast w (.writeFast (chipOf w) (regOf w) (dataOf w))
  | 0x4 => decodeRow rowRmw w (.rmw (chipOf w) (regOf w) (dataOf w) (auxOf w))
  | 0x5 => decodeRow rowReadShadow w (.readShadow (chipOf w) (regOf w))
  | 0x6 => decodeRow rowReadStatus w .readStatus
  | 0x7 => .ok (.reservedOp7 (lowOf w))
  | 0x8 => .ok (.reservedOp8 (lowOf w))
  | 0x9 => .ok (.reservedOp9 (lowOf w))
  | 0xA => .ok (.reservedOpA (lowOf w))
  | 0xB => .ok (.reservedOpB (lowOf w))
  | 0xC => .ok (.reservedOpC (lowOf w))
  | 0xD => .ok (.reservedOpD (lowOf w))
  | 0xE => .ok (.reservedOpE (lowOf w))
  | _ => .ok (.reservedOpF (lowOf w)) -- the one value left, 0xF

/-! ### The serial frame and its slots -/

/-- The chip a frame byte 0 names, when it names one (R85). -/
def frameChip (f : Frame) : Option Chip :=
  if h : f[0].toNat < 3 then some ⟨f[0].toNat, h⟩ else none

/-- The value for chip register r, r in 0..13: `F[1 + r]` (R82). -/
def frameReg (f : Frame) (r : Fin 14) : Byte := f[r.val + 1]

/-- `V1 = F[2][5:4]` (R182). -/
def slot1Voice (f : Frame) : BitVec 2 := f[2].extractLsb' 4 2

/-- `P1 = F[7][7:5]` (R182). -/
def slot1Presc (f : Frame) : BitVec 3 := f[7].extractLsb' 5 3

/-- `C1 = F[15]` (R182). -/
def slot1Count (f : Frame) : Byte := f[15]

/-- `V2 = F[4][5:4]` (R182). -/
def slot2Voice (f : Frame) : BitVec 2 := f[4].extractLsb' 4 2

/-- `P2 = F[9][7:5]` (R182). -/
def slot2Presc (f : Frame) : BitVec 3 := f[9].extractLsb' 5 3

/-- `C2 = F[16]` (R182). -/
def slot2Count (f : Frame) : Byte := f[16]

/-- The low five bits of a byte. -/
def lowFive (b : Byte) : BitVec 5 := b.extractLsb' 0 5

/-- `ID2 = F[9 + (V2 - 1)][4:0]`, "only when V2 != 0" (R182): with V2 = 0 there is no id, and the operand is 0 (log 14). -/
def slot2Id (f : Frame) : BitVec 5 :=
  match slot2Voice f with
  | 0 => 0
  | 1 => lowFive f[9]
  | 2 => lowFive f[10]
  | _ => lowFive f[11] -- the one value left, 3

/-- The frame of its first 17 bytes, the rest left over (R94). -/
def frameOfBytes : List Byte → Option (Frame × List Byte)
  | b0 :: b1 :: b2 :: b3 :: b4 :: b5 :: b6 :: b7 :: b8 :: b9 :: b10 :: b11 :: b12 :: b13 :: b14 :: b15 :: b16 :: rest =>
    some (#v[b0, b1, b2, b3, b4, b5, b6, b7, b8, b9, b10, b11, b12, b13, b14, b15, b16], rest)
  | _ => none

/-- A complete frame: valid only if `F[0] <= 2` (R85, R93). -/
def decodeFrame (f : Frame) : Except DecodeError Instr :=
  match frameChip f with
  | some _ => .ok (.frame f)
  | none => .error .badChip

/-- One frame from the byte stream, and the bytes after it (R80, R94). -/
def decodeSerial (bs : List Byte) : Except DecodeError (Instr × List Byte) :=
  match frameOfBytes bs with
  | none => .error .shortFrame
  | some (f, rest) => (decodeFrame f).map (fun i => (i, rest))

/-- SLOT1 of a frame (R184). -/
def decodeSlot1 (f : Frame) : Except DecodeError Instr :=
  match frameChip f with
  | some c => .ok (.slot1 c (slot1Voice f) (slot1Presc f) (slot1Count f))
  | none => .error .badChip

/-- SLOT2 of a frame (R185). -/
def decodeSlot2 (f : Frame) : Except DecodeError Instr :=
  match frameChip f with
  | some c => .ok (.slot2 c (slot2Voice f) (slot2Presc f) (slot2Count f) (slot2Id f))
  | none => .error .badChip

/-- A tick has no bits; MODE selects its form (R102). -/
def decodeTick : Mode → Instr
  | .direct => .tickDirect
  | .rr => .tickRr

/-- The decoder (R100 for host words; R80 to R94 for bytes). -/
def decode : Encoded → Except DecodeError Instr
  | .word w => decodeHost w
  | .bytes bs => (decodeSerial bs).map Prod.fst
  | .slot1 f => decodeSlot1 f
  | .slot2 f => decodeSlot2 f
  | .tick m => .ok (decodeTick m)

/-! ### The encoder -/

/-- The host word of five fields (R95). -/
def hostWord (op : BitVec 4) (chip : BitVec 2) (reg : RegAddr) (data aux : Byte) : HostWord :=
  op ++ chip ++ reg ++ 0#5 ++ data ++ aux

/-- A frame whose bytes are 0 but for the fields of slot 1 (R86). -/
def slot1Frame (chip : Chip) (voice : BitVec 2) (presc : BitVec 3) (count : Byte) : Frame :=
  #v[BitVec.ofNat 8 chip.val, 0, 0#2 ++ voice ++ 0#4, 0, 0, 0, 0, presc ++ 0#5, 0, 0, 0, 0, 0, 0, 0, count, 0]

/-- `ID2` in the volume byte of voice `v`, when V2 selects that voice (R87). -/
def idAt (voice v : BitVec 2) (id : BitVec 5) : BitVec 5 := if voice = v then id else 0

/-- A frame whose bytes are 0 but for the fields of slot 2 (R87). -/
def slot2Frame (chip : Chip) (voice : BitVec 2) (presc : BitVec 3) (count : Byte) (id : BitVec 5) : Frame :=
  #v[BitVec.ofNat 8 chip.val, 0, 0, 0, 0#2 ++ voice ++ 0#4, 0, 0, 0, 0, presc ++ idAt voice 1 id, 0#3 ++ idAt voice 2 id,
    0#3 ++ idAt voice 3 id, 0, 0, 0, 0, count]

/-- The word of a reserved opcode (R143). -/
def reservedWord (op : BitVec 4) (low : BitVec 28) : HostWord := op ++ low

/-- The encoding of an operation, from R96 (host), R81 (frame), R86 and R87 (slots), R102 (tick). -/
def encode : Instr → Encoded
  | .nop => .word (hostWord 0x0 0 0 0 0)
  | .select chip => .word (hostWord 0x1 chip 0 0 0)
  | .write chip reg data => .word (hostWord 0x2 chip reg data 0)
  | .writeFast chip reg data => .word (hostWord 0x3 chip reg data 0)
  | .rmw chip reg orMask andMask => .word (hostWord 0x4 chip reg orMask andMask)
  | .readShadow chip reg => .word (hostWord 0x5 chip reg 0 0)
  | .readStatus => .word (hostWord 0x6 0 0 0 0)
  | .reservedOp7 low => .word (reservedWord 0x7 low)
  | .reservedOp8 low => .word (reservedWord 0x8 low)
  | .reservedOp9 low => .word (reservedWord 0x9 low)
  | .reservedOpA low => .word (reservedWord 0xA low)
  | .reservedOpB low => .word (reservedWord 0xB low)
  | .reservedOpC low => .word (reservedWord 0xC low)
  | .reservedOpD low => .word (reservedWord 0xD low)
  | .reservedOpE low => .word (reservedWord 0xE low)
  | .reservedOpF low => .word (reservedWord 0xF low)
  | .frame bytes => .bytes bytes.toList
  | .slot1 chip voice presc count => .slot1 (slot1Frame chip voice presc count)
  | .slot2 chip voice presc count id => .slot2 (slot2Frame chip voice presc count id)
  | .tickDirect => .tick .direct
  | .tickRr => .tick .rr

/-! ### The opcode table's numbering of bits (log 25) -/

/-- Byte `k` of a number whose byte 0 is its least significant one. -/
def byteOfNat (w k : Nat) : Byte := BitVec.ofNat 8 (w >>> (8 * k))

/-- The 17 bytes of a frame numbered byte 0 first, `F[0]` in bits [7:0]. -/
def frameOfNat (w : Nat) : Frame :=
  #v[byteOfNat w 0, byteOfNat w 1, byteOfNat w 2, byteOfNat w 3, byteOfNat w 4, byteOfNat w 5, byteOfNat w 6,
    byteOfNat w 7, byteOfNat w 8, byteOfNat w 9, byteOfNat w 10, byteOfNat w 11, byteOfNat w 12, byteOfNat w 13,
    byteOfNat w 14, byteOfNat w 15, byteOfNat w 16]

/-- The decoder on a word as spec/opcode_table.json numbers its bits: a row of up to 32 bits is a host word, a longer one a
frame. A tick has no bits (R102), so no word of no bits decodes to one. -/
def decodeTableWord (nbits w : Nat) : Option Instr :=
  if nbits = 0 then none
  else if nbits ≤ 32 then (decodeHost (BitVec.ofNat 32 w)).toOption
  else (decodeFrame (frameOfNat w)).toOption

end Sys2Proof
end

