-- ==== Sys2Proof/Machine/State.lean ====
section
/-! DEFINITION. The state of YMC (10_state.md), the observation of its bus (20_memory.md R62, R63), the inputs still to
come, the reasons a step can stop, and the state after reset (70_reset_and_hazards.md R310). -/

namespace Sys2Proof.Machine

/-! ### Bus controller state -/

/-- The selection cache and the address-latch tracker (R22, R23). `selCache = none` is the sentinel `NONE`. -/
structure BusTracker where
  selCache : Option Chip
  latchValid : Bool
  latchReg : RegAddr
deriving DecidableEq, Repr

/-- The bus pin registers (R24). -/
structure BusPins where
  selO : SelCode
  selStbO : Bool
  asO : Bool
  dsO : Bool
  dO : Byte
deriving DecidableEq, Repr

/-- `beState` (R25). -/
inductive BePhase where
  | idle
  | sel
  | asu
  | ast
  | ahd
  | dsu
  | dst
  | dhd
deriving DecidableEq, Repr

/-- The kind of a running job (R25). -/
inductive JobKind where
  | select
  | write
  | fast
deriving DecidableEq, Repr

/-- `beJob`: kind, chip, register, masked value (R25). -/
structure Job where
  kind : JobKind
  chip : Chip
  reg : RegAddr
  vm : Byte
deriving DecidableEq, Repr

/-- The bus engine sequencer (R25). `beCnt` is the number of cycles left in the phase. -/
structure Engine where
  beState : BePhase
  beCnt : Nat
  beJob : Job
deriving DecidableEq, Repr

/-- The six shadowed registers of one chip (R26). -/
structure Shadow where
  mix : Byte
  lva : Byte
  lvb : Byte
  lvc : Byte
  pa : Byte
  pb : Byte
deriving DecidableEq, Repr

/-- The index of a shadow byte (R26). -/
inductive ShIdx where
  | mix
  | lva
  | lvb
  | lvc
  | pa
  | pb
deriving DecidableEq, Repr

/-! ### Effect state -/

/-- `TS[c][v]` (R27). -/
structure TimerSynth where
  active : Bool
  level : BitVec 4
  reload : BitVec 16
  countdown : BitVec 16
  toggle : Bool
deriving DecidableEq, Repr

/-- `SP[c][v]` (R29). -/
structure SamplePlay where
  active : Bool
  id : BitVec 5
  pos : BitVec 16
  reload : BitVec 16
  countdown : BitVec 16
deriving DecidableEq, Repr

/-! ### Tick generator, receiver, frame hold, host port -/

/-- `tickDiv`, `tickPending` (R33, R34). -/
structure TickGen where
  tickDiv : Nat
  tickPending : Bool
deriving DecidableEq, Repr

/-- The assembly buffer, its byte count 0..16 and the idle counter (R35, R36). -/
structure Receiver where
  rxBuf : Vector Byte 16
  rxCount : Fin 17
  rxIdle : Nat
deriving DecidableEq, Repr

/-- The frame hold register (R37). -/
structure HoldReg where
  hold : Frame
  holdFull : Bool
deriving DecidableEq, Repr

/-- The host command register and the host result registers (R39, R40). -/
structure HostPort where
  hostPending : Bool
  hostCmd : HostWord
  hDoneO : Bool
  hRdataO : Byte
  hErrO : BitVec 3
deriving DecidableEq, Repr

/-! ### Arbitration and sequencing -/

/-- `owner` (R42). `nobody` is the spec's `NONE`. -/
inductive Owner where
  | nobody
  | sched
  | frame
  | host
deriving DecidableEq, Repr

/-- `txPhase` (R43). -/
inductive TxPhase where
  | grant
  | jobs
  | final
deriving DecidableEq, Repr

/-- The requested kind of a job (R43). `amp` is an amplitude job, whose kind is resolved when it starts (R230). -/
inductive ReqKind where
  | select
  | write
  | fast
  | amp
deriving DecidableEq, Repr

/-- A job descriptor: chip, register, value, requested kind (R43). -/
structure JobReq where
  kind : ReqKind
  chip : Chip
  reg : RegAddr
  value : Byte
deriving DecidableEq, Repr

/-- The owner and the transaction sequencer (R42, R43). -/
structure Sequencer where
  owner : Owner
  txPhase : TxPhase
  txJobs : List JobReq
  txIdx : Nat
deriving DecidableEq, Repr

/-! ### The observation -/

/-- An event of the bus trace (R63). -/
inductive BusEvent where
  /-- `Sel(c)`: a selection phase. -/
  | sel (c : Chip)
  /-- `Addr(c, r)`: an address phase. -/
  | addr (c : Chip) (r : RegAddr)
  /-- `Data(c, r, vm)`: a data phase. -/
  | data (c : Chip) (r : RegAddr) (vm : Byte)
deriving DecidableEq, Repr

/-- The image `IMG` of the `CHIPREG` space (R60, R62) as a list of cells in canonical form (Machine/Memory.lean). An
address that is not listed holds no value: the image is "initially unknown". -/
abbrev Memory := List Host.Cell

/-! ### Inputs -/

/-- The input pins of one cycle (R120). -/
structure PinsIn where
  rst : Bool
  cfgMode : Mode
  rxValid : Bool
  rxData : Byte
  hValid : Bool
  hCmd : HostWord
deriving DecidableEq, Repr

/-- A cycle in which nothing arrives: no reset, no byte, no host offer. `cfg_mode` is not read outside reset (R21). -/
def PinsIn.idle : PinsIn := ⟨false, .direct, false, 0, false, 0⟩

/-- The events of level T (R291). -/
inductive Event where
  | byte (b : Byte)
  | timeout
  | tick
  | offer (w : HostWord)
  | grant (x : Owner)
  | complete
deriving DecidableEq, Repr

/-- One item of the schedule: what the next step is (log 4). -/
inductive Stimulus where
  /-- Level C: one clock cycle with these input pins (R290). -/
  | cycle (i : PinsIn)
  /-- Level T: one event (R291). -/
  | event (e : Event)
  /-- Level T: the transaction the arbiter chooses, from grant to completion, as one atomic step (R11, R286). -/
  | transaction
deriving DecidableEq, Repr

/-! ### The state -/

/-- Everything the spec gives the machine (R22 to R43), the observation of its bus (R62, R63), the build-time parameters
(R7; constant) and the inputs still to come (log 4). -/
structure State where
  cfg : Config
  /-- `MODE` (R21). -/
  mode : Mode
  /-- `selCache`, `latchValid`, `latchReg` (R22, R23). -/
  bus : BusTracker
  /-- `sel_o`, `sel_stb_o`, `as_o`, `ds_o`, `d_o` (R24). -/
  pins : BusPins
  /-- `beState`, `beCnt`, `beJob` (R25). -/
  be : Engine
  /-- `shadow[c]` (R26). -/
  shadow : Triple Shadow
  /-- `TS[c][v]` (R27). -/
  ts : Triple (Triple TimerSynth)
  /-- `SP[c][v]` (R29). -/
  sp : Triple (Triple SamplePlay)
  /-- `rrSlot` (R32). -/
  rrSlot : BitVec 3
  /-- `tickDiv`, `tickPending` (R33, R34). -/
  tick : TickGen
  /-- `rxBuf`, `rxCount`, `rxIdle` (R35, R36). -/
  rx : Receiver
  /-- `hold`, `holdFull` (R37). -/
  hold : HoldReg
  /-- `led[0..2]` (R38). -/
  led : Triple Bool
  /-- `hostPending`, `hostCmd`, `h_done_o`, `h_rdata_o`, `h_err_o` (R39, R40). -/
  host : HostPort
  /-- `STATUS` (R41). -/
  status : BitVec 8
  /-- `owner`, `txPhase`, `txJobs`, `txIdx` (R42, R43). -/
  tx : Sequencer
  /-- Observation: the bus event trace, oldest first (R63). -/
  trace : List BusEvent
  /-- Observation: the ideal chips' address latches `A_c`; `none` is unknown (R62). -/
  latch : Triple (Option RegAddr)
  /-- Observation: the ideal chips' register images `IMG[c][r]` (R62). -/
  mem : Memory
  /-- The inputs still to come, the next one first (log 4). -/
  schedule : List Stimulus
deriving DecidableEq, Repr

/-! ### Why a step can stop -/

/-- YMC has no fault: "YMC has no `stuck` state ... YMC has no `fault`" (R299). No step ends in one. -/
inductive Fault where
deriving DecidableEq, Repr

/-- Why a step is refused. -/
inductive Refusal where
  /-- Raised by `exec` for an operation that has no meaning yet. Safe: nothing runs. -/
  | notModelled (mnemonic : String)
  /-- Raised by `step` when the schedule's next item is a level-T event or transaction that is not allowed in this state:
  R292 makes a level-T run "any sequence of the events of rule R291 in which each event is allowed when it occurs". Safe:
  such a sequence is no run (log 13). -/
  | eventNotAllowed
deriving DecidableEq, Repr

/-! ### Reset -/

/-- A shadow of zeros (R26). -/
def Shadow.zero : Shadow := ⟨0, 0, 0, 0, 0, 0⟩

/-- An inactive timer-synth, every field 0 (R27). -/
def TimerSynth.zero : TimerSynth := ⟨false, 0, 0, 0, false⟩

/-- An inactive sample playback, every field 0 (R29). -/
def SamplePlay.zero : SamplePlay := ⟨false, 0, 0, 0, 0⟩

/-- The reset state (R310) of a machine with parameters `cfg`, whose strap `cfg_mode` was `mode` in the last reset cycle.
Nothing has been observed on the bus and no input is waiting. -/
def State.resetWith (cfg : Config) (mode : Mode) : State where
  cfg := cfg
  mode := mode
  bus := ⟨none, false, 0⟩
  pins := ⟨cfg.selNone, false, false, false, 0⟩
  be := ⟨.idle, 0, ⟨.select, 0, 0, 0⟩⟩
  shadow := .replicate .zero
  ts := .replicate (.replicate .zero)
  sp := .replicate (.replicate .zero)
  rrSlot := 0
  tick := ⟨0, false⟩
  rx := ⟨Vector.replicate 16 0, 0, 0⟩
  hold := ⟨Vector.replicate 17 0, false⟩
  led := .replicate false
  host := ⟨false, 0, false, 0, 0⟩
  status := 0
  tx := ⟨.nobody, .grant, [], 0⟩
  trace := []
  latch := .replicate none
  mem := []
  schedule := []

/-- The machine right after reset (R310), with the parameters of log 1 and the strap of log 2. -/
def State.reset : State := State.resetWith Config.tcfg .direct

end Sys2Proof.Machine
end

