-- ==== Sys2Proof/Machine/Flags.lean ====
section
/-! DEFINITION. The flags of `STATUS` (10_state.md R41, 60_exceptions.md R276, R277), YMC's only flag-like state (R45). -/

namespace Sys2Proof.Machine

/-- The flags of `STATUS` (R41). -/
inductive StatusFlag where
  | rxShort
  | rxBadChip
  | rxOverrun
  | tickOverrun
  | hostErr
deriving DecidableEq, Repr

/-- The bit of each flag: 0 to 4; bits 7:5 are never set (R41, R277). -/
def StatusFlag.bit : StatusFlag → BitVec 8
  | .rxShort => 0x01
  | .rxBadChip => 0x02
  | .rxOverrun => 0x04
  | .tickOverrun => 0x08
  | .hostErr => 0x10

/-- `STATUS <- STATUS | {f}`: flags are sticky (R41, R276). -/
def setFlag (f : StatusFlag) (s : State) : State := { s with status := s.status ||| f.bit }

/-- READ_STATUS clears every flag; events of the same cycle set theirs afterwards (R142, R276). -/
def clearStatus (s : State) : State := { s with status := 0 }

end Sys2Proof.Machine
end

