-- ==== Sys2Proof/Machine/Memory.lean ====
section
/-! DEFINITION. The image of the `CHIPREG` space (20_memory.md R60, R62), which only the observation holds: YMC itself
never reads a chip register (R61). A cell's address is 32 c + r for chip c, register r (log 11). -/

namespace Sys2Proof.Machine

/-- The address of register `r` of chip `c` (R60: chip 0..2, register 0..31; log 11). -/
def chipRegAddr (c : Chip) (r : RegAddr) : Nat := 32 * c.val + r.toNat

/-- One past the last address of `CHIPREG`: three chips of 32 registers (R60). -/
def memSize : Nat := 96

/-- The byte at an address; no value where nothing is known (R62: "initially unknown"). -/
def Memory.read : Memory → Nat → Option Byte
  | [], _ => none
  | (k, v) :: m, a => if k = a then some v else Memory.read m a

/-- The image with the byte at one address set. -/
def Memory.write : Memory → Nat → Byte → Memory
  | [], a, v => [(a, v)]
  | (k, w) :: m, a, v =>
    if a < k then (a, v) :: (k, w) :: m
    else if a = k then (a, v) :: m
    else (k, w) :: Memory.write m a v

/-- The image with every address of a range unknown. -/
def Memory.forget (m : Memory) (first count : Nat) : Memory :=
  m.filter (fun cell => decide (cell.1 < first ∨ first + count ≤ cell.1))

/-- The canonical form: addresses strictly rising and inside the space. No cell equals what an unlisted address reads as,
since that is no value. -/
abbrev Memory.wf (m : Memory) : Prop :=
  List.Pairwise (fun x y => x.1 < y.1) m ∧ ∀ cell ∈ m, cell.1 < memSize

end Sys2Proof.Machine
end

