-- ==== Sys2Proof/Machine/Tables.lean ====
section
/-! DEFINITION. The read-only tables and what the parameters of 00_scope.md R7 determine: the write mask (30_encoding.md
R84, 40 R122), the select code (R105), the prescaler (20 R65), the samples (20 R66), the phase lengths (R7, 40 R127). -/

namespace Sys2Proof

/-- `N_x = max(1, ceil(T_x_NS * F_CLK_HZ / 1e9))` (R7). -/
def cyclesOfNs (fClkHz ns : Nat) : Nat := max 1 ((ns * fClkHz + 999999999) / 1000000000)

/-- `N_SEL` (R7). -/
def Config.nSel (cfg : Config) : Nat := cyclesOfNs cfg.fClkHz cfg.tSelNs

/-- `N_SU` (R7). -/
def Config.nSu (cfg : Config) : Nat := cyclesOfNs cfg.fClkHz cfg.tSuNs

/-- `N_APW` (R7). -/
def Config.nApw (cfg : Config) : Nat := cyclesOfNs cfg.fClkHz cfg.tApwNs

/-- `N_DPW` (R7). -/
def Config.nDpw (cfg : Config) : Nat := cyclesOfNs cfg.fClkHz cfg.tDpwNs

/-- `N_HD` (R7). -/
def Config.nHd (cfg : Config) : Nat := cyclesOfNs cfg.fClkHz cfg.tHdNs

/-- `SEL_MAP(c)` (R105). -/
def Config.selCode (cfg : Config) (c : Chip) : SelCode := cfg.selMap.get c

/-- `MemRead(PRESC, p, 1) = PRESCALER[p]` (R65). -/
def Config.prescale (cfg : Config) (p : BitVec 3) : Byte := cfg.prescaler[p.toNat]

/-- `SAMPLE_LEN[id]` (R66). -/
def Config.lenOf (cfg : Config) (id : BitVec 5) : BitVec 16 := cfg.sampleLen[id.toNat]

/-- `MemRead(SAMPLE, (id, i), 1) = SAMPLE_DATA(id, i)` (R66); where the sample has no such byte, the free value (log 5). -/
def Config.sampleByte (cfg : Config) (id : BitVec 5) (i : BitVec 16) : Byte :=
  (cfg.sampleData[id.toNat][i.toNat]?).getD (Config.sampleBeyond id i)

/-- `TICK_PERIOD` of a mode (R284). -/
def Config.tickPeriod (cfg : Config) : Mode → Nat
  | .direct => cfg.tickPeriodDirect
  | .rr => cfg.tickPeriodRr

/-- The write-mask table `MASK[r]`, r in 0..13 (R84). -/
def maskTable : Vector Byte 14 :=
  #v[0xFF, 0x0F, 0xFF, 0x0F, 0xFF, 0x0F, 0x1F, 0xFF, 0x1F, 0x1F, 0x1F, 0xFF, 0xFF, 0x0F]

/-- `MaskOf(r)`: the table for r <= 13, `0xFF` for r >= 14 (R122). -/
def maskOf (r : RegAddr) : Byte := if h : r.toNat < 14 then maskTable[r.toNat] else 0xFF

/-- The constraints R7 puts on the parameters: the clock positive; `SEL_MAP` injective and never `SEL_NONE` (D5);
`PRESCALER[3] = 16`; each sample as long as its length entry (R66); the periods and the timeout at least 1 (log 26). -/
abbrev Config.Wf (cfg : Config) : Prop :=
  1 ≤ cfg.fClkHz ∧
  (cfg.selCode 0 ≠ cfg.selCode 1 ∧ cfg.selCode 0 ≠ cfg.selCode 2 ∧ cfg.selCode 1 ≠ cfg.selCode 2) ∧
  (∀ c : Chip, cfg.selCode c ≠ cfg.selNone) ∧
  cfg.prescale 3 = 16 ∧
  (∀ id : Fin 32, cfg.sampleData[id].length = cfg.sampleLen[id].toNat) ∧
  1 ≤ cfg.tickPeriodDirect ∧ 1 ≤ cfg.tickPeriodRr ∧ 1 ≤ cfg.rxTimeout

end Sys2Proof
end

