-- ==== Sys2Proof/Machine/Operands.lean ====
section
/-! DEFINITION. Operand forms and computed values: chip and shadow operands (20_memory.md R67, 30_encoding.md R97), WRITE_FAST
legality (40_bus_controller.md R133), slot operands (41_frame_decoder.md R183, R184), the amplitude of a voice
(42_effect_scheduler.md R222, R223). -/

namespace Sys2Proof.Machine

/-- The chip a CHIP field names; 3 names none (R95, R97). -/
def chipOperand (chip : BitVec 2) : Option Chip :=
  if h : chip.toNat < 3 then some ⟨chip.toNat, h⟩ else none

/-- `ShIdx(r)` on the shadowed registers 7, 8, 9, 10, 14, 15; no other register has one (R67). -/
def shIdx (r : RegAddr) : Option ShIdx :=
  if r = 7 then some .mix
  else if r = 8 then some .lva
  else if r = 9 then some .lvb
  else if r = 10 then some .lvc
  else if r = 14 then some .pa
  else if r = 15 then some .pb
  else none

/-- `ShReg(i)` (R26). -/
def shReg : ShIdx → RegAddr
  | .mix => 7
  | .lva => 8
  | .lvb => 9
  | .lvc => 10
  | .pa => 14
  | .pb => 15

/-- The shadow byte of an index. -/
def Shadow.get (sh : Shadow) : ShIdx → Byte
  | .mix => sh.mix
  | .lva => sh.lva
  | .lvb => sh.lvb
  | .lvc => sh.lvc
  | .pa => sh.pa
  | .pb => sh.pb

/-- The shadow with the byte of an index replaced. -/
def Shadow.set (sh : Shadow) : ShIdx → Byte → Shadow
  | .mix, v => { sh with mix := v }
  | .lva, v => { sh with lva := v }
  | .lvb, v => { sh with lvb := v }
  | .lvc, v => { sh with lvc := v }
  | .pa, v => { sh with pa := v }
  | .pb, v => { sh with pb := v }

/-- `S.shadow[c][i]`. -/
def State.shadowAt (s : State) (c : Chip) (i : ShIdx) : Byte := (s.shadow.get c).get i

/-- `FastOK(c, r)` (R133). -/
def fastOk (c : Chip) (r : RegAddr) (s : State) : Bool :=
  decide (s.bus.selCache = some c ∧ s.bus.latchValid = true ∧ s.bus.latchReg = r)

/-- `TS[c][v]`. -/
def State.tsAt (s : State) (c : Chip) (v : Voice) : TimerSynth := (s.ts.get c).get v

/-- `SP[c][v]`. -/
def State.spAt (s : State) (c : Chip) (v : Voice) : SamplePlay := (s.sp.get c).get v

/-- The voice a slot's voice field selects: 0 = no effect, 1, 2, 3 = A, B, C (R88). -/
def voiceOperand (voice : BitVec 2) : Option Voice :=
  if voice = 1 then some 0 else if voice = 2 then some 1 else if voice = 3 then some 2 else none

/-- `Ticks(P, C) = (C + 1) × PRESCALER[P]`, stored in 16 bits (R183). -/
def ticksOf (cfg : Config) (presc : BitVec 3) (count : Byte) : BitVec 16 :=
  BitVec.ofNat 16 ((count.toNat + 1) * (cfg.prescale presc).toNat)

/-- `level = min(C[4:0], 15)` (R90). -/
def levelOf (count : Byte) : BitVec 4 := BitVec.ofNat 4 (min (count.extractLsb' 0 5).toNat 15)

/-- The volume register `8 + v` of a voice (R83). -/
def volumeReg (v : Voice) : RegAddr := BitVec.ofNat 5 (8 + v.val)

/-- `Armed(c, v)` (R222). -/
def armed (s : State) (c : Chip) (v : Voice) : Bool := (s.tsAt c v).active || (s.spAt c v).active

/-- `AmpValue(c, v)`, 4 bits: the timer-synth's value when it is active, otherwise the low nibble of the current sample
byte (R223, R226). -/
def ampValue (s : State) (c : Chip) (v : Voice) : BitVec 4 :=
  if (s.tsAt c v).active then (if (s.tsAt c v).toggle then (s.tsAt c v).level else 0)
  else (s.cfg.sampleByte (s.spAt c v).id (s.spAt c v).pos).extractLsb' 0 4

/-- Chip and voice of combination k: `c = k div 3`, `v = k mod 3` (R13, R224). -/
def comboOf (k : Fin 9) : Chip × Voice :=
  (⟨k.val / 3, by omega⟩, ⟨k.val % 3, by omega⟩)

end Sys2Proof.Machine
end

