-- ==== Sys2Proof/Machine/Ops.lean ====
section
/-! DEFINITION. The operations the transactions and the cycle function share: what the end of a bus phase does
(40_bus_controller.md R124 to R126), the three bus jobs at level T (R121), the exceptional events (60_exceptions.md R270 to
R276), and how a transaction takes and releases the bus (R280, R281, R285). -/

namespace Sys2Proof.Machine

/-! ### What the end of a phase does to YMC (R124, R125, R126); the trace event it appends (R63) -/

/-- End of a selection phase: `selCache <- c`, `latchValid <- 0` (R124). -/
def selEnd (c : Chip) (s : State) : State :=
  { s with bus := { s.bus with selCache := some c, latchValid := false }, trace := s.trace ++ [.sel c] }

/-- End of an address strobe: `latchReg <- r`, `latchValid <- 1` (R125). -/
def addrEnd (c : Chip) (r : RegAddr) (s : State) : State :=
  { s with bus := { s.bus with latchValid := true, latchReg := r }, trace := s.trace ++ [.addr c r] }

/-- The shadow after a data phase: "if `Shadowed(r)`: `shadow[c][ShIdx(r)] <- vm`" (R126). -/
def shadowAfter (c : Chip) (r : RegAddr) (vm : Byte) (sh : Triple Shadow) : Triple Shadow :=
  match shIdx r with
  | some i => sh.set c ((sh.get c).set i vm)
  | none => sh

/-- End of a data strobe: the shadow follows (R126). -/
def dataEnd (c : Chip) (r : RegAddr) (vm : Byte) (s : State) : State :=
  { s with shadow := shadowAfter c r vm s.shadow, trace := s.trace ++ [.data c r vm] }

/-! ### What the ideal chips see (R62) -/

/-- The addressed chip latches an address: `A_c <- r` (R62), for the addresses 16..31 of 93 U1 too (log 27). -/
def chipLatches (c : Chip) (r : RegAddr) (s : State) : State :=
  { s with latch := s.latch.set c (some r) }

/-- The addressed chip stores a byte: `IMG[c][A_c] <- v`. With an unknown latch any register of that chip may have
changed, so its whole image is unknown afterwards (R62, log 10).
DESIGN CHOICE (log 27): the ideal chip stores at the latched register for 16..31 too and keeps its other registers, where a
real chip may hold any value (93 U1). -/
def chipStores (c : Chip) (v : Byte) (s : State) : State :=
  match s.latch.get c with
  | some r => { s with mem := s.mem.write (chipRegAddr c r) v }
  | none => { s with mem := s.mem.forget (32 * c.val) 32 }

/-! ### Quiet pins after a job (R103: an idle bus holds `sel_o` and `d_o`; log 9) -/

/-- `sel_o` holds the last select code. -/
def holdSel (c : Chip) (s : State) : State := { s with pins := { s.pins with selO := s.cfg.selCode c } }

/-- `d_o` holds the last value driven. -/
def holdData (v : Byte) (s : State) : State := { s with pins := { s.pins with dO := v } }

/-! ### The bus jobs at level T (R121) -/

/-- `BusSelect(c)` (R121). -/
def busSelect (c : Chip) (s : State) : State := holdSel c (selEnd c s)

/-- The selection a full write makes: "`if S.selCache != c`" (R121, R124). -/
def selectIfNeeded (c : Chip) (s : State) : State :=
  if s.bus.selCache = some c then s else busSelect c s

/-- The address phase of a full write (R121, R125). -/
def addressPhase (c : Chip) (r : RegAddr) (s : State) : State := chipLatches c r (addrEnd c r s)

/-- The data phase of a write (R121, R126). -/
def dataPhase (c : Chip) (r : RegAddr) (vm : Byte) (s : State) : State :=
  holdData vm (chipStores c vm (dataEnd c r vm s))

/-- `BusWrite(c, r, v)` (R121): "present `registerAddress & 0x1F` ... present `value`", masked by `MaskOf(r)` (R122). -/
def busWrite (c : Chip) (r : RegAddr) (v : Byte) (s : State) : State :=
  dataPhase c r (v &&& maskOf r) (addressPhase c r (selectIfNeeded c s))

/-- `BusWriteFast(c, r, v)` (R121): a data phase only. -/
def busWriteFast (c : Chip) (r : RegAddr) (v : Byte) (s : State) : State :=
  dataPhase c r (v &&& maskOf r) s

/-- `Resolve(j)`: kind, chip, register and masked value, "using the state after this cycle's effects" (R127). An amplitude
job is a fast write exactly when `FastOK` holds (R230). A select job's register and masked value come out as 0 (log 28). -/
def resolve (j : JobReq) (s : State) : Job :=
  { kind :=
      match j.kind with
      | .select => .select
      | .write => .write
      | .fast => .fast
      | .amp => if fastOk j.chip j.reg s then .fast else .write
    chip := j.chip
    reg := j.reg
    vm := j.value &&& maskOf j.reg }

/-- One job of a transaction, resolved when it starts (R121, R127). -/
def runJob (s : State) (j : JobReq) : State :=
  match (resolve j s).kind with
  | .select => busSelect j.chip s
  | .write => busWrite j.chip j.reg j.value s
  | .fast => busWriteFast j.chip j.reg j.value s

/-- The jobs of a transaction in order (R73, R286). -/
def runJobs (js : List JobReq) (s : State) : State := js.foldl runJob s

/-! ### Exceptional events: YMC's form of taking an exception (R270)
No state is saved and no handler runs: the work is dropped, one `STATUS` bit is set and, for a host command, a code is
returned. There is nothing to return from. -/

/-- The host error codes (R99, R273). -/
inductive HostErr where
  | ok
  | badOp
  | rsvd
  | badChip
  | noShadow
  | latch
deriving DecidableEq, Repr

/-- The code on `h_err_o` (R99). -/
def HostErr.code : HostErr → BitVec 3
  | .ok => 0
  | .badOp => 1
  | .rsvd => 2
  | .badChip => 3
  | .noShadow => 4
  | .latch => 5

/-- `raise Discard(cause)`: the cause's `STATUS` bit, nothing else (R271, R272). -/
def raiseDiscard (cause : StatusFlag) (s : State) : State := setFlag cause s

/-- Completion outputs of a HOST transaction (R145): `hostPending <- 0`, the result registers, and `h_done_o = 1` in the
next cycle. -/
def completeHost (err : HostErr) (rdata : Byte) (s : State) : State :=
  { s with host := { s.host with hostPending := false, hDoneO := true, hRdataO := rdata, hErrO := err.code } }

/-- `raise HostError(code)` at the end of a rejected command: `STATUS.HOST_ERR`, the code, data 0x00 (R129, R275, R276). -/
def rejectHost (err : HostErr) (s : State) : State := setFlag .hostErr (completeHost err 0 s)

/-- `h_done_o` is a one-cycle pulse: 0 in every cycle but the one after a completion (R40, R145; at level T, log 8). -/
def clearDone (s : State) : State := { s with host := { s.host with hDoneO := false } }

/-! ### Taking and releasing the bus (R280, R281, R285) -/

/-- A grant: `owner <- X`, the jobs fixed, `txIdx <- 0` (R285). With no job the next cycle is the final one. -/
def takeBus (x : Owner) (js : List JobReq) (s : State) : State :=
  { s with tx := { owner := x, txPhase := if js.isEmpty then .final else .jobs, txJobs := js, txIdx := 0 } }

/-- The end of the final cycle: `owner <- NONE` (R281, R285; log 7). -/
def releaseBus (s : State) : State := { s with tx := { s.tx with owner := .nobody, txPhase := .grant } }

/-- The sequencer after a transaction of these jobs, run as one atomic step: the bus is released and the jobs stay listed
as done (log 7). -/
def closeTx (js : List JobReq) (s : State) : State :=
  { s with tx := { owner := .nobody, txPhase := .grant, txJobs := js, txIdx := js.length } }

/-- Taking the tick: the entry to a SCHED transaction clears `tickPending` (R221, R278, R280). -/
def takeTick (s : State) : State := { s with tick := { s.tick with tickPending := false } }

end Sys2Proof.Machine
end

