-- ==== Sys2Proof/Machine/Frame.lean ====
section
/-! DEFINITION. The FRAME transaction and the two effect slots (41_frame_decoder.md R178 to R185). -/

namespace Sys2Proof.Machine

/-! ### Slot 1, timer-synth (R184) -/

/-- Deactivation clears only `active`; the other fields keep their values (R184 (a)). -/
def TimerSynth.stop (t : TimerSynth) : TimerSynth := { t with active := false }

/-- Arming: level, reload and countdown set, toggle cleared (R184). -/
def TimerSynth.arm (level : BitVec 4) (ticks : BitVec 16) : TimerSynth := ⟨true, level, ticks, ticks, false⟩

/-- `armV`: the voice slot 1 arms, if the voice field names one and the reload is not 0 (R184, D14). -/
def slot1Arms (voice : BitVec 2) (ticks : BitVec 16) : Option Voice :=
  if ticks = 0 then none else voiceOperand voice

/-- The timer-synths of one chip before the arming: `EXCLUSIVE` stops every voice slot 1 does not arm; `PERSIST` stops
only a named voice whose reload is 0 (R184, D15). -/
def slot1Stops (policy : TsPolicy) (voice : BitVec 2) (ticks : BitVec 16) (t : Triple TimerSynth) : Triple TimerSynth :=
  match policy with
  | .exclusive =>
    match slot1Arms voice ticks with
    | some v => (t.map TimerSynth.stop).set v (t.get v)
    | none => t.map TimerSynth.stop
  | .persist =>
    match voiceOperand voice with
    | some v => if ticks = 0 then t.set v (t.get v).stop else t
    | none => t

/-- The timer-synths of one chip after slot 1 (R184). -/
def slot1Chip (policy : TsPolicy) (voice : BitVec 2) (ticks : BitVec 16) (level : BitVec 4) (t : Triple TimerSynth) :
    Triple TimerSynth :=
  match slot1Arms voice ticks with
  | some v => (slot1Stops policy voice ticks t).set v (TimerSynth.arm level ticks)
  | none => slot1Stops policy voice ticks t

/-- `Slot1(c, F)` on the fields V1, P1, C1 (R184). -/
def slot1Apply (c : Chip) (voice : BitVec 2) (presc : BitVec 3) (count : Byte) (s : State) : State :=
  { s with ts := s.ts.set c (slot1Chip s.cfg.tsPolicy voice (ticksOf s.cfg presc count) (levelOf count) (s.ts.get c)) }

/-! ### Slot 2, sample playback (R185) -/

/-- Deactivation clears only `active` (R185; 95 S2-5). -/
def SamplePlay.stop (p : SamplePlay) : SamplePlay := { p with active := false }

/-- Arming at the start of the sample (R185). -/
def SamplePlay.arm (id : BitVec 5) (ticks : BitVec 16) : SamplePlay := ⟨true, id, 0, ticks, ticks⟩

/-- The selected voice after slot 2: stopped when the reload or the sample's length is 0, otherwise armed (R185). -/
def slot2Play (cfg : Config) (ticks : BitVec 16) (id : BitVec 5) (p : SamplePlay) : SamplePlay :=
  if ticks = 0 ∨ cfg.lenOf id = 0 then p.stop else SamplePlay.arm id ticks

/-- `Slot2(c, F)` on the fields V2, P2, C2, ID2 (R185): nothing when V2 = 0. -/
def slot2Apply (c : Chip) (voice : BitVec 2) (presc : BitVec 3) (count : Byte) (id : BitVec 5) (s : State) : State :=
  match voiceOperand voice with
  | none => s
  | some v =>
    { s with sp := s.sp.set c ((s.sp.get c).set v (slot2Play s.cfg (ticksOf s.cfg presc count) id (s.spAt c v))) }

/-! ### FRAME (R178 to R181) -/

/-- `led[c] <- ~led[c]` (R180). -/
def toggleLed (c : Chip) (s : State) : State := { s with led := s.led.set c (!s.led.get c) }

/-- The registers 0..13 in increasing order (R179). -/
def frameRegs : List (Fin 14) := [0, 1, 2, 3, 4, 5, 6, 7, 8, 9, 10, 11, 12, 13]

/-- FRAME jobs: 14 full writes `(c, r, F[1 + r])` in increasing r (R179). -/
def frameJobs (c : Chip) (f : Frame) : List JobReq :=
  frameRegs.map (fun r => ⟨.write, c, BitVec.ofNat 5 r.val, frameReg f r⟩)

/-- `holdFull <- 0` (R181). -/
def releaseHold (s : State) : State := { s with hold := { s.hold with holdFull := false } }

/-- Slot 1 then slot 2 of a frame for chip c, decoded from its raw bytes (R181, R182). -/
def frameSlots (c : Chip) (f : Frame) (s : State) : State :=
  slot2Apply c (slot2Voice f) (slot2Presc f) (slot2Count f) (slot2Id f)
    (slot1Apply c (slot1Voice f) (slot1Presc f) (slot1Count f) s)

/-- FRAME final cycle: both slots, then the hold released (R181). -/
def frameFinal (c : Chip) (f : Frame) (s : State) : State := releaseHold (frameSlots c f s)

/-- One FRAME transaction as an atomic step (R178): LED, the 14 writes, the slots, the hold released. -/
def frameTransaction (c : Chip) (f : Frame) (s : State) : State :=
  closeTx (frameJobs c f) (frameFinal c f (runJobs (frameJobs c f) (toggleLed c (clearDone s))))

/-! ### The meanings -/

/-- FRAME (R178). A frame with `F[0] >= 3` is discarded: `RX_BADCHIP` and nothing else (R174, R186; log 16). -/
def execFrame (bytes : Frame) (s : State) : Host.Outcome State Fault Refusal :=
  match frameChip bytes with
  | some c => .next (frameTransaction c bytes s)
  | none => .next (raiseDiscard .rxBadChip (clearDone s))

/-- SLOT1 (R184): the decode alone, as the final cycle of a FRAME transaction does it. -/
def execSlot1 (chip : Chip) (voice : BitVec 2) (presc : BitVec 3) (count : Byte) (s : State) :
    Host.Outcome State Fault Refusal :=
  .next (slot1Apply chip voice presc count s)

/-- SLOT2 (R185): the decode alone, as the final cycle of a FRAME transaction does it. -/
def execSlot2 (chip : Chip) (voice : BitVec 2) (presc : BitVec 3) (count : Byte) (id : BitVec 5) (s : State) :
    Host.Outcome State Fault Refusal :=
  .next (slot2Apply chip voice presc count id s)

end Sys2Proof.Machine
end

