-- ==== Sys2Proof/Machine/Host.lean ====
section
/-! DEFINITION. The host commands (40_bus_controller.md R128 to R145). Each command has a plan: what its checks say in a
state, its jobs and its result. `exec` runs a plan as one atomic transaction (R286); the cycle function takes the jobs at
the grant and the result in the final cycle (R144, R145). -/

namespace Sys2Proof.Machine

/-- Where the result byte comes from (R99). -/
inductive HostData where
  | byte (b : Byte)
  /-- `STATUS` in the final cycle, which is then cleared (R142). -/
  | status
deriving DecidableEq, Repr

/-- The verdict of the checks (R98), the jobs and the result of a host command. -/
structure HostPlan where
  err : HostErr
  jobs : List JobReq
  data : HostData
deriving DecidableEq, Repr

/-- A rejected command: no jobs, data 0x00 (R129). -/
def HostPlan.reject (err : HostErr) : HostPlan := ⟨err, [], .byte 0⟩

/-- An accepted command. -/
def HostPlan.accept (jobs : List JobReq) (data : HostData) : HostPlan := ⟨.ok, jobs, data⟩

/-- The result of a plan in the final cycle (R142, R145, R276). -/
def finishHost (p : HostPlan) (s : State) : State :=
  match p.err, p.data with
  | .ok, .byte b => completeHost .ok b s
  | .ok, .status => clearStatus (completeHost .ok s.status s)
  | e, _ => rejectHost e s

/-- One HOST transaction as an atomic step: its jobs, then its result, then the bus released (R144, R286). -/
def hostTransaction (p : HostPlan) (s : State) : State :=
  closeTx p.jobs (finishHost p (runJobs p.jobs s))

/-! ### The plans -/

/-- NOP: `result <- (OK, 0x00)` (R132). -/
def planNop : HostPlan := .accept [] (.byte 0)

/-- SELECT: `BusSelect(c)`, even if `selCache = c` (R134).
DESIGN CHOICE (log 28): R43's descriptor has a register and a value too, of which no rule says anything for a select job; they
are 0 here. -/
def planSelect (chip : BitVec 2) : HostPlan :=
  match chipOperand chip with
  | none => .reject .badChip
  | some c => .accept [⟨.select, c, 0, 0⟩] (.byte 0)

/-- WRITE: `BusWrite(c, r, v)` (R135). -/
def planWrite (chip : BitVec 2) (reg : RegAddr) (data : Byte) : HostPlan :=
  match chipOperand chip with
  | none => .reject .badChip
  | some c => .accept [⟨.write, c, reg, data⟩] (.byte 0)

/-- WRITE_FAST: `E_LATCH` unless `FastOK(c, r)`, then `BusWriteFast(c, r, v)` (R136). -/
def planWriteFast (chip : BitVec 2) (reg : RegAddr) (data : Byte) (s : State) : HostPlan :=
  match chipOperand chip with
  | none => .reject .badChip
  | some c => if fastOk c reg s then .accept [⟨.fast, c, reg, data⟩] (.byte 0) else .reject .latch

/-- RMW: `new = (old & a) | o`, a full write of it, result `new & MaskOf(r)` (R139). -/
def planRmw (chip : BitVec 2) (reg : RegAddr) (orMask andMask : Byte) (s : State) : HostPlan :=
  match chipOperand chip with
  | none => .reject .badChip
  | some c =>
    match shIdx reg with
    | none => .reject .noShadow
    | some i =>
      .accept [⟨.write, c, reg, (s.shadowAt c i &&& andMask) ||| orMask⟩]
        (.byte (((s.shadowAt c i &&& andMask) ||| orMask) &&& maskOf reg))

/-- READ_SHADOW: `result <- (OK, S.shadow[c][ShIdx(r)])` (R141). -/
def planReadShadow (chip : BitVec 2) (reg : RegAddr) (s : State) : HostPlan :=
  match chipOperand chip with
  | none => .reject .badChip
  | some c =>
    match shIdx reg with
    | none => .reject .noShadow
    | some i => .accept [] (.byte (s.shadowAt c i))

/-- READ_STATUS: `result <- (OK, STATUS(f))`, `STATUS <- Events(f)` (R142). -/
def planReadStatus : HostPlan := .accept [] .status

/-- A reserved opcode: `raise HostError(E_BADOP)` (R143). -/
def planReserved : HostPlan := .reject .badOp

/-- The plan of a decoded host word. A host word decodes to no frame, slot or tick; a term of those kinds has no host plan
and is answered as a reserved opcode. -/
def planOf (i : Instr) (s : State) : HostPlan :=
  match i with
  | .nop => planNop
  | .select chip => planSelect chip
  | .write chip reg data => planWrite chip reg data
  | .writeFast chip reg data => planWriteFast chip reg data s
  | .rmw chip reg orMask andMask => planRmw chip reg orMask andMask s
  | .readShadow chip reg => planReadShadow chip reg s
  | .readStatus => planReadStatus
  | .reservedOp7 _ => planReserved
  | .reservedOp8 _ => planReserved
  | .reservedOp9 _ => planReserved
  | .reservedOpA _ => planReserved
  | .reservedOpB _ => planReserved
  | .reservedOpC _ => planReserved
  | .reservedOpD _ => planReserved
  | .reservedOpE _ => planReserved
  | .reservedOpF _ => planReserved
  | .frame _ => planReserved
  | .slot1 _ _ _ _ => planReserved
  | .slot2 _ _ _ _ _ => planReserved
  | .tickDirect => planReserved
  | .tickRr => planReserved

/-- The plan of a host word: the checks of R98 in order, 1 and 2 by the decoder (R129). -/
def hostPlan (w : HostWord) (s : State) : HostPlan :=
  match decodeHost w with
  | .ok i => planOf i s
  | .error _ => .reject .rsvd

/-! ### The meanings -/

/-- NOP (R132). -/
def execNop (s : State) : Host.Outcome State Fault Refusal := .next (hostTransaction planNop s)

/-- SELECT (R134). -/
def execSelect (chip : BitVec 2) (s : State) : Host.Outcome State Fault Refusal :=
  .next (hostTransaction (planSelect chip) s)

/-- WRITE (R135). -/
def execWrite (chip : BitVec 2) (reg : RegAddr) (data : Byte) (s : State) : Host.Outcome State Fault Refusal :=
  .next (hostTransaction (planWrite chip reg data) s)

/-- WRITE_FAST (R136). -/
def execWriteFast (chip : BitVec 2) (reg : RegAddr) (data : Byte) (s : State) : Host.Outcome State Fault Refusal :=
  .next (hostTransaction (planWriteFast chip reg data s) s)

/-- RMW (R139). -/
def execRmw (chip : BitVec 2) (reg : RegAddr) (orMask andMask : Byte) (s : State) : Host.Outcome State Fault Refusal :=
  .next (hostTransaction (planRmw chip reg orMask andMask s) s)

/-- READ_SHADOW (R141). -/
def execReadShadow (chip : BitVec 2) (reg : RegAddr) (s : State) : Host.Outcome State Fault Refusal :=
  .next (hostTransaction (planReadShadow chip reg s) s)

/-- READ_STATUS (R142). -/
def execReadStatus (s : State) : Host.Outcome State Fault Refusal := .next (hostTransaction planReadStatus s)

/-- RESERVED_OP_7 (R143): the bits below the opcode are not looked at. -/
def execReservedOp7 (_low : BitVec 28) (s : State) : Host.Outcome State Fault Refusal :=
  .next (hostTransaction planReserved s)

/-- RESERVED_OP_8 (R143). -/
def execReservedOp8 (_low : BitVec 28) (s : State) : Host.Outcome State Fault Refusal :=
  .next (hostTransaction planReserved s)

/-- RESERVED_OP_9 (R143). -/
def execReservedOp9 (_low : BitVec 28) (s : State) : Host.Outcome State Fault Refusal :=
  .next (hostTransaction planReserved s)

/-- RESERVED_OP_A (R143). -/
def execReservedOpA (_low : BitVec 28) (s : State) : Host.Outcome State Fault Refusal :=
  .next (hostTransaction planReserved s)

/-- RESERVED_OP_B (R143). -/
def execReservedOpB (_low : BitVec 28) (s : State) : Host.Outcome State Fault Refusal :=
  .next (hostTransaction planReserved s)

/-- RESERVED_OP_C (R143). -/
def execReservedOpC (_low : BitVec 28) (s : State) : Host.Outcome State Fault Refusal :=
  .next (hostTransaction planReserved s)

/-- RESERVED_OP_D (R143). -/
def execReservedOpD (_low : BitVec 28) (s : State) : Host.Outcome State Fault Refusal :=
  .next (hostTransaction planReserved s)

/-- RESERVED_OP_E (R143). -/
def execReservedOpE (_low : BitVec 28) (s : State) : Host.Outcome State Fault Refusal :=
  .next (hostTransaction planReserved s)

/-- RESERVED_OP_F (R143). -/
def execReservedOpF (_low : BitVec 28) (s : State) : Host.Outcome State Fault Refusal :=
  .next (hostTransaction planReserved s)

end Sys2Proof.Machine
end

