-- ==== Sys2Proof/Machine/Scheduler.lean ====
section
/-! DEFINITION. The effect scheduler: write lists, the advance phase and the two forms of an activation
(42_effect_scheduler.md R220 to R232). -/

namespace Sys2Proof.Machine

/-! ### Write phase (R224, R225) -/

/-- The amplitude job of (c, v): register `8 + v`, the 4-bit value zero-extended (R224, R230). -/
def ampJob (s : State) (cv : Chip × Voice) : JobReq :=
  ⟨.amp, cv.1, volumeReg cv.2, (ampValue s cv.1 cv.2).setWidth 8⟩

/-- The jobs of the armed combinations among these, in order. -/
def ampJobs (s : State) (ks : List (Fin 9)) : List JobReq :=
  ((ks.map comboOf).filter (fun cv => armed s cv.1 cv.2)).map (ampJob s)

/-- The nine combinations in increasing k (R13, R224). -/
def allCombos : List (Fin 9) := [0, 1, 2, 3, 4, 5, 6, 7, 8]

/-- DIRECT write list (R224). -/
def directJobs (s : State) : List JobReq := ampJobs s allCombos

/-- RR write list: the combination of `rrSlot`, 0..7, so never combination 8 (R225, D20). -/
def rrJobs (s : State) : List JobReq := ampJobs s [⟨s.rrSlot.toNat, by omega⟩]

/-- The write list of the mode (R221). -/
def schedJobs (s : State) : List JobReq :=
  match s.mode with
  | .direct => directJobs s
  | .rr => rrJobs s

/-! ### Advance phase (R229, R231, R232) -/

/-- `AdvanceTS` (R231). -/
def TimerSynth.advance (t : TimerSynth) : TimerSynth :=
  if t.active then
    if t.countdown = 1 then { t with countdown := t.reload, toggle := !t.toggle }
    else { t with countdown := t.countdown - 1 }
  else t

/-- `AdvanceSP` (R232): the comparison uses the exact new cursor value. -/
def SamplePlay.advance (cfg : Config) (p : SamplePlay) : SamplePlay :=
  if p.active then
    if p.countdown = 1 then
      { p with
        countdown := p.reload
        pos := p.pos + 1
        active := decide (p.pos.toNat + 1 < (cfg.lenOf p.id).toNat) }
    else { p with countdown := p.countdown - 1 }
  else p

/-- `rrSlot <- (rrSlot + 1) mod 8`, if `MODE = RR` (R229, R32). -/
def rrNext (m : Mode) (slot : BitVec 3) : BitVec 3 :=
  match m with
  | .direct => slot
  | .rr => slot + 1

/-- `Advance()`: all nine timer-synths, all nine samples, then the slot (R229). -/
def advance (s : State) : State :=
  { s with
    ts := s.ts.map (fun t => t.map TimerSynth.advance)
    sp := s.sp.map (fun p => p.map (SamplePlay.advance s.cfg))
    rrSlot := rrNext s.mode s.rrSlot }

/-- One SCHED transaction as an atomic step: `tickPending <- 0`, the write phase from the state at grant, the advance phase
(R221, R227, R228). -/
def schedTransaction (jobs : List JobReq) (s : State) : State :=
  closeTx jobs (advance (runJobs jobs (takeTick (clearDone s))))

/-! ### The meanings -/

/-- TICK_DIRECT (R227). -/
def execTickDirect (s : State) : Host.Outcome State Fault Refusal := .next (schedTransaction (directJobs s) s)

/-- TICK_RR (R228). -/
def execTickRr (s : State) : Host.Outcome State Fault Refusal := .next (schedTransaction (rrJobs s) s)

end Sys2Proof.Machine
end

