-- ==== Sys2Proof/Machine/Arbiter.lean ====
section
/-! DEFINITION. The arbiter, grant effects and final effects of the three transactions (60_exceptions.md R280, R281, R285). -/

namespace Sys2Proof.Machine

/-- The foreground choice (R285). -/
def foreground (s : State) : Owner :=
  match s.cfg.arbFg with
  | .frameFirst => if s.hold.holdFull then .frame else if s.host.hostPending then .host else .nobody
  | .hostFirst => if s.host.hostPending then .host else if s.hold.holdFull then .frame else .nobody

/-- The transaction granted in this state: none while the bus has an owner; the tick first (R285). -/
def arbitrate (s : State) : Owner :=
  if s.tx.owner ≠ .nobody then .nobody
  else if s.tick.tickPending then .sched
  else foreground s

/-- The jobs fixed at the grant (R221, R179, R144). A held frame always names a chip (R37, R178); in a state where it does
not, there is no job (log 16). -/
def grantJobs (x : Owner) (s : State) : List JobReq :=
  match x with
  | .nobody => []
  | .sched => schedJobs s
  | .frame =>
    match frameChip s.hold.hold with
    | some c => frameJobs c s.hold.hold
    | none => []
  | .host => (hostPlan s.host.hostCmd s).jobs

/-- The grant effects: SCHED takes the tick, FRAME toggles the LED, HOST is validated (R285). -/
def grantEffects (x : Owner) (s : State) : State :=
  match x with
  | .nobody => s
  | .sched => takeTick s
  | .frame =>
    match frameChip s.hold.hold with
    | some c => toggleLed c s
    | none => s
  | .host => s

/-- The end of a grant cycle: the jobs come from the state of that cycle (R285). -/
def openTx (x : Owner) (s : State) : State := takeBus x (grantJobs x s) (grantEffects x s)

/-- A held frame that names no chip is dropped (unreachable by R37; log 16). -/
def dropHeld (s : State) : State := raiseDiscard .rxBadChip (releaseHold s)

/-- The final effects of the owner's transaction (R285): `Advance()` (R229); the slots and the hold (R181); the host result
(R145). The host verdict is the one of the grant cycle, found again from the same state (log 6). -/
def finalEffects (x : Owner) (s : State) : State :=
  match x with
  | .nobody => s
  | .sched => advance s
  | .frame =>
    match frameChip s.hold.hold with
    | some c => frameFinal c s.hold.hold s
    | none => dropHeld s
  | .host => finishHost (hostPlan s.host.hostCmd s) s

end Sys2Proof.Machine
end

