-- ==== Sys2Proof/Machine/Timing.lean ====
section
/-! DEFINITION. Phase, job and transaction lengths in cycles (40_bus_controller.md R123, R127; 70_reset_and_hazards.md R328,
R329). -/

namespace Sys2Proof.Machine

/-- `N(p)`, the length of a phase (R127). IDLE has no length. -/
def phaseLength (cfg : Config) : BePhase → Nat
  | .idle => 0
  | .sel => cfg.nSel
  | .asu => cfg.nSu
  | .ast => cfg.nApw
  | .ahd => cfg.nHd
  | .dsu => cfg.nSu
  | .dst => cfg.nDpw
  | .dhd => cfg.nHd

/-- `L_W = 2·N_SU + N_APW + N_DPW + 2·N_HD` (R328). -/
def writeLength (cfg : Config) : Nat := 2 * cfg.nSu + cfg.nApw + cfg.nDpw + 2 * cfg.nHd

/-- The length of a job that starts in this state: `L_SEL`, `L_WR(sel)` or `L_FAST` (R123). -/
def jobLength (j : JobReq) (s : State) : Nat :=
  match (resolve j s).kind with
  | .select => s.cfg.nSel
  | .write => (if s.bus.selCache = some j.chip then 0 else s.cfg.nSel) + writeLength s.cfg
  | .fast => s.cfg.nSu + s.cfg.nDpw + s.cfg.nHd

/-- The cycles of jobs run one after another with no idle cycle between them (R127). -/
def jobsLength : List JobReq → State → Nat
  | [], _ => 0
  | j :: js, s => jobLength j s + jobsLength js (runJob s j)

/-- A transaction's length from its grant cycle to its final cycle inclusive: `2 + Σ job lengths` (R329). -/
def transactionLength (js : List JobReq) (s : State) : Nat := 2 + jobsLength js s

end Sys2Proof.Machine
end

