-- ==== Sys2Proof/Machine/Engine.lean ====
section
/-! DEFINITION. The bus engine at the cycle level (40_bus_controller.md R124 to R127), the pins it drives (30_encoding.md R103,
R104), and what the ideal chips see on the pins (20_memory.md R62). -/

namespace Sys2Proof.Machine

/-- `Next(kind, phase)`, the phase sequence of a job (R104). IDLE has no next phase. -/
def nextPhase : JobKind → BePhase → Option BePhase
  | _, .idle => none
  | .select, .sel => none
  | .write, .sel => some .asu
  | .fast, .sel => none
  | _, .asu => some .ast
  | _, .ast => some .ahd
  | _, .ahd => some .dsu
  | _, .dsu => some .dst
  | _, .dst => some .dhd
  | _, .dhd => none

/-- `First(job)`: "SEL if kind = SELECT, or kind = WRITE and selCache != c; ASU if kind = WRITE and selCache == c; DSU if kind
= FAST" (R127). -/
def firstPhase (j : Job) (s : State) : BePhase :=
  match j.kind with
  | .select => .sel
  | .write => if s.bus.selCache = some j.chip then .asu else .sel
  | .fast => .dsu

/-- The end-of-phase effect of the running phase (R124, R125, R126, R127). -/
def endPhase (s : State) : State :=
  match s.be.beState with
  | .sel => selEnd s.be.beJob.chip s
  | .ast => addrEnd s.be.beJob.chip s.be.beJob.reg s
  | .dst => dataEnd s.be.beJob.chip s.be.beJob.reg s.be.beJob.vm s
  | .idle => s
  | .asu => s
  | .ahd => s
  | .dsu => s
  | .dhd => s

/-- `S.beState <- p; S.beCnt <- N(p)` (R127). -/
def enterPhase (p : BePhase) (s : State) : State :=
  { s with be := { s.be with beState := p, beCnt := phaseLength s.cfg p } }

/-- `S.beJob <- Resolve(j)` and its first phase (R127). -/
def startJob (j : JobReq) (s : State) : State :=
  enterPhase (firstPhase (resolve j s) s) { s with be := { s.be with beJob := resolve j s } }

/-- The index of the job to run next: one further when a job has just ended (R43, R127). -/
def nextIdx (s : State) : Nat := if s.be.beState = .idle then s.tx.txIdx else s.tx.txIdx + 1

/-- `S.beState <- IDLE`; when the owner's jobs are done, its next cycle is the final one (R127, R285). -/
def stopEngine (s : State) : State :=
  { s with
    be := { s.be with beState := .idle }
    tx := { s.tx with txPhase := if s.tx.txPhase = .jobs then .final else s.tx.txPhase } }

/-- The end of a job, or an idle engine: the owner's next job starts, or the engine stops (R127). Only the owner issues bus
jobs (R42, R130). -/
def nextJob (s : State) : State :=
  if s.tx.owner = .nobody then { s with be := { s.be with beState := .idle } }
  else
    match s.tx.txJobs[nextIdx s]? with
    | some j => startJob j { s with tx := { s.tx with txIdx := nextIdx s } }
    | none => stopEngine { s with tx := { s.tx with txIdx := nextIdx s } }

/-- The bus engine's next state, at the end of a cycle without reset (R127). -/
def engineCycle (s : State) : State :=
  if s.be.beState ≠ .idle ∧ 1 < s.be.beCnt then
    { s with be := { s.be with beCnt := s.be.beCnt - 1 } }
  else
    match nextPhase s.be.beJob.kind s.be.beState with
    | some p => enterPhase p (endPhase s)
    | none => nextJob (endPhase s)

/-! ### Pins -/

/-- The pins of a phase, from those of the cycle before (R103). -/
def pinsOf (cfg : Config) (be : Engine) (p : BusPins) : BusPins :=
  match be.beState with
  | .idle => { p with selStbO := false, asO := false, dsO := false }
  | .sel => { p with selO := cfg.selCode be.beJob.chip, selStbO := true, asO := false, dsO := false }
  | .asu => { p with selStbO := false, asO := false, dsO := false, dO := be.beJob.reg.setWidth 8 }
  | .ast => { p with selStbO := false, asO := true, dsO := false, dO := be.beJob.reg.setWidth 8 }
  | .ahd => { p with selStbO := false, asO := false, dsO := false, dO := be.beJob.reg.setWidth 8 }
  | .dsu => { p with selStbO := false, asO := false, dsO := false, dO := be.beJob.vm }
  | .dst => { p with selStbO := false, asO := false, dsO := true, dO := be.beJob.vm }
  | .dhd => { p with selStbO := false, asO := false, dsO := false, dO := be.beJob.vm }

/-- The pins of the next cycle (R103, R127). -/
def drivePins (s : State) : State := { s with pins := pinsOf s.cfg s.be s.pins }

/-! ### The ideal chips on the pins (R62) -/

/-- Whether chip c is addressed: `sel_o = SEL_MAP(c)` (R62). -/
def addressed (cfg : Config) (p : BusPins) (c : Chip) : Bool := decide (p.selO = cfg.selCode c)

/-- A strobe's falling edge at an addressed chip (R62): `as_o` latches `d_o[4:0]`, `ds_o` stores `d_o`. `old` and `new` are
the pins of cycles t and t + 1. -/
def chipSees (old new : BusPins) (s : State) (c : Chip) : State :=
  if addressed s.cfg old c then
    if old.asO && !new.asO then chipLatches c (old.dO.extractLsb' 0 5) s
    else if old.dsO && !new.dsO then chipStores c old.dO s
    else s
  else s

/-- The three chips observe one edge of the pins (R62). -/
def observe (old new : BusPins) (s : State) : State := [(0 : Chip), 1, 2].foldl (chipSees old new) s

/-- A chip of which a bus job was cut short: its latch may hold any value (U5), and if the data strobe was up, so may the
register it had latched, or any register where the latch was unknown (log 10). -/
def chipLoses (storing : Bool) (c : Chip) (s : State) : State :=
  { s with
    latch := s.latch.set c none
    mem :=
      if storing then
        match s.latch.get c with
        | some r => s.mem.forget (chipRegAddr c r) 1
        | none => s.mem.forget (32 * c.val) 32
      else s.mem }

/-- The chips at a reset edge: "a reset in the middle of a bus job cuts the job short", in whichever of its phases (R310, U5).
`be` is the engine in the reset cycle. -/
def observeReset (be : Engine) (s : State) : State :=
  if be.beState = .idle then s else chipLoses (be.beState = .dst) be.beJob.chip s

end Sys2Proof.Machine
end

