-- ==== Sys2Proof/Machine/Receiver.lean ====
section
/-! DEFINITION. The serial receiver (41_frame_decoder.md R170 to R177). -/

namespace Sys2Proof.Machine

/-- A valid complete frame: held if the hold register is free, otherwise dropped with `RX_OVERRUN` (R175). A release in the
same cycle has been applied before (R175, R287; log 24). -/
def holdFrame (f : Frame) (s : State) : State :=
  if s.hold.holdFull then raiseDiscard .rxOverrun s
  else { s with hold := ⟨f, true⟩ }

/-- `Complete(F)`: the chip-id check (R174). -/
def completeFrame (f : Frame) (s : State) : State :=
  match frameChip f with
  | some _ => holdFrame f s
  | none => raiseDiscard .rxBadChip s

/-- Byte acceptance: into the buffer, or, as offset 16, completing the frame (R172). -/
def receiveByte (b : Byte) (s : State) : State :=
  if h : s.rx.rxCount.val < 16 then
    { s with rx := ⟨s.rx.rxBuf.set s.rx.rxCount.val b h, ⟨s.rx.rxCount.val + 1, by omega⟩, 0⟩ }
  else
    completeFrame (s.rx.rxBuf.push b) { s with rx := { s.rx with rxCount := 0, rxIdle := 0 } }

/-- The timeout of a partial frame: it is dropped with `RX_SHORT` (R173). -/
def dropPartial (s : State) : State :=
  raiseDiscard .rxShort { s with rx := { s.rx with rxCount := 0, rxIdle := 0 } }

/-- A cycle with no byte (R173). -/
def receiveNothing (s : State) : State :=
  if s.rx.rxCount = 0 then { s with rx := { s.rx with rxIdle := 0 } }
  else if s.rx.rxIdle = s.cfg.rxTimeout - 1 then dropPartial s
  else { s with rx := { s.rx with rxIdle := s.rx.rxIdle + 1 } }

/-- The receiver in one cycle without reset (R170, R172, R173). -/
def receiverCycle (i : PinsIn) (s : State) : State :=
  if i.rxValid then receiveByte i.rxData s else receiveNothing s

end Sys2Proof.Machine
end

