-- ==== Sys2Proof/Machine/Tick.lean ====
section
/-! DEFINITION. The tick generator (60_exceptions.md R278, R283, R284). -/

namespace Sys2Proof.Machine

/-- A tick: `tickPending <- 1`; a tick that finds it already 1 is lost, `TICK_OVERRUN` (R283). A SCHED grant of the same
cycle has cleared it before (R287; log 24). -/
def raiseTick (s : State) : State :=
  if s.tick.tickPending then setFlag .tickOverrun s
  else { s with tick := { s.tick with tickPending := true } }

/-- The tick generator in one cycle without reset (R283). -/
def tickCycle (s : State) : State :=
  if s.tick.tickDiv = s.cfg.tickPeriod s.mode - 1 then raiseTick { s with tick := { s.tick with tickDiv := 0 } }
  else { s with tick := { s.tick with tickDiv := s.tick.tickDiv + 1 } }

end Sys2Proof.Machine
end

