-- ==== Sys2Proof/Machine/Cycle.lean ====
section
/-! DEFINITION. Level C, the normative level: the state in cycle t + 1 from the state and the inputs of cycle t
(60_exceptions.md R290; 92 D1). The agents own disjoint state; where two write one element in one cycle, R287 says who wins,
and the order of composition here is that rule (log 24). -/

namespace Sys2Proof.Machine

/-- The transaction in one cycle without reset: a grant cycle, a cycle of its jobs, or its final cycle (R285, R290). -/
def txCycle (s : State) : State :=
  match s.tx.owner with
  | .nobody =>
    match arbitrate s with
    | .nobody => engineCycle s
    | x => engineCycle (openTx x s)
  | x =>
    match s.tx.txPhase with
    | .final => releaseBus (finalEffects x s)
    | _ => engineCycle s

/-- Host command acceptance: "`h_valid = 1` and `hostPending = 0`", the latter as it is in this cycle (R128). -/
def acceptHost (i : PinsIn) (wasPending : Bool) (s : State) : State :=
  if i.hValid && !wasPending then { s with host := { s.host with hostPending := true, hostCmd := i.hCmd } }
  else s

/-- A cycle with `rst = 1`: every state element takes its reset value; `cfg_mode` is sampled; all other inputs are ignored
(R310, R311). The observation and the inputs to come are no state of YMC and stay (R313, log 12). -/
def resetCycle (i : PinsIn) (s : State) : State :=
  observeReset s.be
    { State.resetWith s.cfg i.cfgMode with
      trace := s.trace, latch := s.latch, mem := s.mem, schedule := s.schedule }

/-- A cycle with `rst = 0` (R290). -/
def runCycle (i : PinsIn) (s : State) : State :=
  let driven := drivePins (txCycle (clearDone s))
  acceptHost i s.host.hostPending (tickCycle (receiverCycle i (observe s.pins driven.pins driven)))

/-- Level C step (R290). -/
def cycle (i : PinsIn) (s : State) : State := if i.rst then resetCycle i s else runCycle i s

/-- Cycles one after another. -/
def cycles (is : List PinsIn) (s : State) : State := is.foldl (fun t i => cycle i t) s

/-! ### Outputs that are no registers -/

/-- `h_ready` is `~hostPending`, and 0 during reset (R39, R120). -/
def hReady (i : PinsIn) (s : State) : Bool := !i.rst && !s.host.hostPending

/-- `led_o[2:0]` (R38, R180). -/
def ledO (s : State) : Triple Bool := s.led

end Sys2Proof.Machine
end

