-- ==== Sys2Proof/Machine/Events.lean ====
section
/-! DEFINITION. Level T: the events of 60_exceptions.md R291 and the step relation of R292. An event that is not allowed when
it occurs is refused (log 13). `h_done_o` is up only after the step that completed a host command (log 8). -/

namespace Sys2Proof.Machine

/-- A host offer, taken (R128, R291). -/
def takeOffer (w : HostWord) (s : State) : State :=
  { s with host := { s.host with hostPending := true, hostCmd := w } }

/-- `Complete`: the jobs still to run, the final effects, `owner <- NONE` (R291). -/
def completeTx (s : State) : State :=
  closeTx s.tx.txJobs (finalEffects s.tx.owner (runJobs (s.tx.txJobs.drop s.tx.txIdx) s))

/-- One event of level T (R291). `Grant` and `Complete` act between jobs, when the engine is idle. -/
def event (e : Event) (s : State) : Host.Outcome State Fault Refusal :=
  match e with
  | .byte b => .next (receiveByte b (clearDone s))
  | .timeout => if s.rx.rxCount = 0 then .refused .eventNotAllowed else .next (dropPartial (clearDone s))
  | .tick => .next (raiseTick (clearDone s))
  | .offer w => if s.host.hostPending then .refused .eventNotAllowed else .next (takeOffer w (clearDone s))
  | .grant x =>
    if x ≠ .nobody ∧ arbitrate s = x ∧ s.be.beState = .idle then .next (openTx x (clearDone s))
    else .refused .eventNotAllowed
  | .complete =>
    if s.tx.owner ≠ .nobody ∧ s.be.beState = .idle then .next (completeTx (clearDone s))
    else .refused .eventNotAllowed

end Sys2Proof.Machine
end

