-- ==== Sys2Proof/Machine/Dispatch.lean ====
section
/-! DEFINITION. `exec`: one arm per operation, each one call of its meaning. -/

namespace Sys2Proof.Machine

def exec (i : Instr) (s : State) : Host.Outcome State Fault Refusal :=
  match i with
  | .nop => Sys2Proof.Machine.execNop s
  | .select chip => Sys2Proof.Machine.execSelect chip s
  | .write chip reg data => Sys2Proof.Machine.execWrite chip reg data s
  | .writeFast chip reg data => Sys2Proof.Machine.execWriteFast chip reg data s
  | .rmw chip reg orMask andMask => Sys2Proof.Machine.execRmw chip reg orMask andMask s
  | .readShadow chip reg => Sys2Proof.Machine.execReadShadow chip reg s
  | .readStatus => Sys2Proof.Machine.execReadStatus s
  | .reservedOp7 low => Sys2Proof.Machine.execReservedOp7 low s
  | .reservedOp8 low => Sys2Proof.Machine.execReservedOp8 low s
  | .reservedOp9 low => Sys2Proof.Machine.execReservedOp9 low s
  | .reservedOpA low => Sys2Proof.Machine.execReservedOpA low s
  | .reservedOpB low => Sys2Proof.Machine.execReservedOpB low s
  | .reservedOpC low => Sys2Proof.Machine.execReservedOpC low s
  | .reservedOpD low => Sys2Proof.Machine.execReservedOpD low s
  | .reservedOpE low => Sys2Proof.Machine.execReservedOpE low s
  | .reservedOpF low => Sys2Proof.Machine.execReservedOpF low s
  | .frame bytes => Sys2Proof.Machine.execFrame bytes s
  | .slot1 chip voice presc count => Sys2Proof.Machine.execSlot1 chip voice presc count s
  | .slot2 chip voice presc count id => Sys2Proof.Machine.execSlot2 chip voice presc count id s
  | .tickDirect => Sys2Proof.Machine.execTickDirect s
  | .tickRr => Sys2Proof.Machine.execTickRr s

end Sys2Proof.Machine
end

