-- ==== Sys2Proof/Machine/Fetch.lean ====
section
/-! DEFINITION. Where the next operation stands, and running it as one transaction (60_exceptions.md R11, R285, R286). YMC
fetches no instruction (R78): its next operation is what the arbiter grants next. -/

namespace Sys2Proof.Machine

/-- What the arbiter takes next: the pending tick's form, the held frame, the pending host word (R285). -/
def fetch (s : State) : Option Encoded :=
  match arbitrate s with
  | .nobody => none
  | .sched => some (.tick s.mode)
  | .frame => some (.bytes s.hold.hold.toList)
  | .host => some (.word s.host.hostCmd)

/-- What a fetched item that decodes to no operation does: a host word with a must-be-zero bit set is a rejected command
(R129, R275); a held frame that names no chip is dropped (unreachable by R37; log 16). -/
def rejectFetched (e : DecodeError) (s : State) : State :=
  match e with
  | .reservedBits => hostTransaction (.reject .rsvd) s
  | .shortFrame => closeTx [] (dropHeld (clearDone s))
  | .badChip => closeTx [] (dropHeld (clearDone s))

/-- The transaction the arbiter chooses, as one atomic step: fetched, decoded, executed. With no request there is no such
step (R285; log 13). -/
def transaction (s : State) : Host.Outcome State Fault Refusal :=
  match fetch s with
  | none => .refused .eventNotAllowed
  | some e =>
    match decode e with
    | .ok i => exec i s
    | .error r => .next (rejectFetched r s)

/-- The request of a host word, a frame or (no bits, R102) a tick, and no other. -/
def withRequest (nbits w : Nat) (s : State) : State :=
  if nbits = 0 then
    { s with tick := { s.tick with tickPending := true } }
  else if nbits ≤ 32 then
    { s with
      tick := { s.tick with tickPending := false }
      hold := { s.hold with holdFull := false }
      host := { s.host with hostPending := true, hostCmd := BitVec.ofNat 32 w } }
  else
    { s with
      tick := { s.tick with tickPending := false }
      hold := ⟨frameOfNat w, true⟩
      host := { s.host with hostPending := false } }

end Sys2Proof.Machine
end

