-- ==== Sys2Proof/Machine/Step.lean ====
section
/-! DEFINITION. One step of YMC. The schedule says what the step is (log 4): a clock cycle with given input pins (level C,
normative), an event of level T, or a whole transaction. With nothing scheduled it is a clock cycle in which nothing arrives. -/

namespace Sys2Proof.Machine

/-- The step. -/
def step (s : State) : Host.Outcome State Fault Refusal :=
  match s.schedule with
  | [] => .next (cycle .idle s)
  | .cycle i :: rest => .next (cycle i { s with schedule := rest })
  | .event e :: rest => event e { s with schedule := rest }
  | .transaction :: rest => transaction { s with schedule := rest }

/-- `s` with an operation placed where the next step takes it: as the only request, of a free bus, and a transaction next
in the schedule. A row of no bits is a tick (R102), of up to 32 bits a host word, a longer one a frame (log 25). -/
def State.withFetchWord (s : State) (nbits w : Nat) : State :=
  withRequest nbits w
    { s with tx := { s.tx with owner := .nobody }, schedule := .transaction :: s.schedule }

end Sys2Proof.Machine
end

