-- ==== Sys2Proof/Safety.lean ====
section
/-! DEFINITION. What a good state of YMC is: the invariants the spec states or its rules keep. Every claim over all states
that could fail only in states no run reaches takes one of these as a premise, and each is claimed to be kept by every step
(Certificates/Slice0/Obligations.lean). A safe run is one in which every state is good and no step is refused: at level C no
step ever is. -/

namespace Sys2Proof.Machine

/-- Timer-synth and sample-playback invariants (R28, R30). -/
def EffectsOk (s : State) : Prop :=
  ∀ (c : Chip) (v : Voice),
    ((s.tsAt c v).active = true →
      1 ≤ (s.tsAt c v).countdown.toNat ∧ (s.tsAt c v).countdown.toNat ≤ (s.tsAt c v).reload.toNat) ∧
    ((s.spAt c v).active = true →
      1 ≤ (s.spAt c v).countdown.toNat ∧ (s.spAt c v).countdown.toNat ≤ (s.spAt c v).reload.toNat ∧
      (s.spAt c v).pos.toNat < (s.cfg.lenOf (s.spAt c v).id).toNat)

/-- "Bits 7:5 are always 0" (R277). -/
def StatusOk (s : State) : Prop := s.status &&& 0xE0 = 0

/-- "Values 6 and 7 never occur" on `h_err_o` (R99). -/
def HostErrOk (s : State) : Prop := s.host.hErrO.toNat ≤ 5

/-- "When `holdFull = 1`, `hold` is a complete frame with `hold[0] <= 2`" (R37), and a FRAME transaction has its frame in
`hold`. -/
def HoldOk (s : State) : Prop :=
  (s.hold.holdFull = true → s.hold.hold[0].toNat ≤ 2) ∧ (s.tx.owner = .frame → s.hold.holdFull = true)

/-- The idle counter stays below the timeout and is 0 at a frame boundary (R36, R173). -/
def ReceiverOk (s : State) : Prop :=
  s.rx.rxIdle < s.cfg.rxTimeout ∧ (s.rx.rxCount = 0 → s.rx.rxIdle = 0)

/-- The tick divider stays below the period of the mode (R33, R283). -/
def TickOk (s : State) : Prop := s.tick.tickDiv < s.cfg.tickPeriod s.mode

/-- The image is in canonical form. -/
def MemOk (s : State) : Prop := s.mem.wf

/-- The sequencer's phases (R43, R48, R285): a free bus has an idle engine; at most 14 jobs; `txIdx` names the job running or
next to run, and is one past the last in the final cycle. -/
def SequencerOk (s : State) : Prop :=
  s.tx.txJobs.length ≤ 14 ∧
  (s.tx.owner = .nobody → s.be.beState = .idle ∧ s.tx.txPhase = .grant) ∧
  (s.tx.owner ≠ .nobody → s.tx.txPhase = .jobs ∨ s.tx.txPhase = .final) ∧
  (s.tx.txPhase = .jobs → s.tx.owner ≠ .nobody ∧ s.tx.txIdx < s.tx.txJobs.length) ∧
  (s.tx.txPhase = .final →
    s.tx.owner ≠ .nobody ∧ s.be.beState = .idle ∧ s.tx.txIdx = s.tx.txJobs.length)

/-- The pins are those of the running phase (R103, R127). -/
def PinsOk (s : State) : Prop := s.pins = pinsOf s.cfg s.be s.pins

/-- The select code on the pins is that of the cached chip, but in a selection phase (R22, R105, R124). -/
def SelectOk (s : State) : Prop :=
  ∀ c : Chip, s.bus.selCache = some c → s.be.beState ≠ .sel → s.pins.selO = s.cfg.selCode c

/-- The running job's chip is selected once its selection phase is over, and its register is the latched one once its
address strobe is over (R104, R124, R125, R133). -/
def RunningOk (s : State) : Prop :=
  (s.be.beState ≠ .idle → s.be.beState ≠ .sel → s.bus.selCache = some s.be.beJob.chip) ∧
  (s.be.beState = .ahd ∨ s.be.beState = .dsu ∨ s.be.beState = .dst ∨ s.be.beState = .dhd →
    s.bus.latchValid = true ∧ s.bus.latchReg = s.be.beJob.reg) ∧
  (s.be.beState = .sel → s.be.beJob.kind ≠ .fast) ∧
  (s.be.beState = .asu ∨ s.be.beState = .ast ∨ s.be.beState = .ahd → s.be.beJob.kind = .write)

/-- A requested fast job is the whole transaction, and it is legal until it has started (R129, R133, R136). -/
def FastOkWaiting (s : State) : Prop :=
  ∀ j ∈ s.tx.txJobs, j.kind = .fast →
    s.tx.txJobs = [j] ∧ (s.tx.owner ≠ .nobody → s.tx.txPhase = .jobs → s.be.beState = .idle → fastOk j.chip j.reg s = true)

/-- The tracker is right about the ideal chip: "`FastOK` implies that the selected chip's latch `A_c` equals `r`" (R133). -/
def LatchOk (s : State) : Prop :=
  ∀ c : Chip, s.bus.selCache = some c → s.bus.latchValid = true → s.latch.get c = some s.bus.latchReg

/-- The bus invariant: sequencer, pins, selection, running job and latch tracker together, on a board whose select codes
tell the chips apart (D5). -/
structure BusInv (s : State) : Prop where
  cfgWf : s.cfg.Wf
  sequencer : SequencerOk s
  pins : PinsOk s
  select : SelectOk s
  running : RunningOk s
  waiting : FastOkWaiting s
  latch : LatchOk s

/-- "For every `Data(c, r, vm)` event in a trace with `r <= 13`, `vm & ~MASK[r] = 0`" (R138), for the events so far and the
job running. `MaskOf` is 0xFF from 14 on, so this says it for every r. -/
def MaskedOk (s : State) : Prop :=
  (∀ (c : Chip) (r : RegAddr) (vm : Byte), BusEvent.data c r vm ∈ s.trace → vm &&& ~~~maskOf r = 0) ∧
  (s.be.beState ≠ .idle → s.be.beJob.vm &&& ~~~maskOf s.be.beJob.reg = 0)

/-- The shadow agrees with the image wherever the image is known (R75). A reset clears the shadow and not the chips
(R313), so this is kept by every step but a reset cycle. -/
def ShadowAgrees (s : State) : Prop :=
  ∀ (c : Chip) (i : ShIdx) (b : Byte), s.mem.read (chipRegAddr c (shReg i)) = some b → b = s.shadowAt c i

/-- The step is a reset cycle: the schedule's next item is a cycle with `rst = 1` (R290, R310). -/
def resetNext (s : State) : Bool :=
  match s.schedule with
  | .cycle i :: _ => i.rst
  | _ => false

/-- The state a transaction owns exclusively, and the trace (R44, R73, R286): equal in two states. The receiver, the tick
generator, `STATUS` and the host handshake go on beside a transaction and are not in it. -/
def SharedEq (a b : State) : Prop :=
  a.cfg = b.cfg ∧ a.mode = b.mode ∧ a.bus = b.bus ∧ a.shadow = b.shadow ∧ a.ts = b.ts ∧ a.sp = b.sp ∧
  a.rrSlot = b.rrSlot ∧ a.led = b.led ∧ a.tx.owner = b.tx.owner ∧ a.tx.txPhase = b.tx.txPhase ∧
  a.tx.txJobs = b.tx.txJobs ∧ a.trace = b.trace

/-- Everything of YMC and its trace, but the ideal chips (R61, R62): equal in two states. -/
def SameButChips (a b : State) : Prop := { a with latch := b.latch, mem := b.mem } = b

/-! ### The words of the claims: frames -/

/-- The strobes are as they were. -/
def StrobesKept (s t : State) : Prop :=
  t.pins.selStbO = s.pins.selStbO ∧ t.pins.asO = s.pins.asO ∧ t.pins.dsO = s.pins.dsO

/-- What no operation writes: parameters, MODE, the engine, the receiver, the tick divider, the inputs to come; and the bus
is free afterwards (R44, R281, R285). -/
structure CommonFrame (s t : State) : Prop where
  cfg : t.cfg = s.cfg
  mode : t.mode = s.mode
  be : t.be = s.be
  rx : t.rx = s.rx
  tickDiv : t.tick.tickDiv = s.tick.tickDiv
  schedule : t.schedule = s.schedule
  strobes : StrobesKept s t
  owner : t.tx.owner = .nobody

/-- The effect state and its slot are as they were. -/
def EffectsKept (s t : State) : Prop := t.ts = s.ts ∧ t.sp = s.sp ∧ t.rrSlot = s.rrSlot

/-- The bus state of YMC, the trace, the shadow and the chips are as they were. -/
structure BusKept (s t : State) : Prop where
  bus : t.bus = s.bus
  pins : t.pins = s.pins
  shadow : t.shadow = s.shadow
  trace : t.trace = s.trace
  latch : t.latch = s.latch
  image : ∀ a, t.mem.read a = s.mem.read a

/-- What a host command leaves alone: everything R44 gives it no W for, but the bus state, the shadow and `STATUS`. -/
structure HostFrame (s t : State) : Prop where
  common : CommonFrame s t
  effects : EffectsKept s t
  tickPending : t.tick.tickPending = s.tick.tickPending
  hold : t.hold = s.hold
  led : t.led = s.led
  hostCmd : t.host.hostCmd = s.host.hostCmd

/-- The host sees the end of its command (R145): the result, the pulse, and the port free again. -/
structure HostDone (t : State) (err : BitVec 3) (rdata : Byte) : Prop where
  pending : t.host.hostPending = false
  done : t.host.hDoneO = true
  err : t.host.hErrO = err
  rdata : t.host.hRdataO = rdata

/-- A rejected command (R129, R275): the code, data 0x00, `HOST_ERR`, and nothing else. -/
structure RejectedWith (s t : State) (code : BitVec 3) : Prop where
  result : HostDone t code 0
  status : t.status = s.status ||| 0x10
  frame : HostFrame s t
  bus : BusKept s t

/-- The host registers of an operation that is no host command: nothing but the pulse `h_done_o` may change (R40). -/
def HostRegsKept (s t : State) : Prop :=
  t.host.hostPending = s.host.hostPending ∧ t.host.hostCmd = s.host.hostCmd ∧
  t.host.hRdataO = s.host.hRdataO ∧ t.host.hErrO = s.host.hErrO

/-! ### The words of the claims: the bus trace -/

/-- The events of a full write from a selection cache (R121). -/
def writeEvents (cache : Option Chip) (c : Chip) (r : RegAddr) (vm : Byte) : List BusEvent :=
  (if cache = some c then [] else [.sel c]) ++ [.addr c r, .data c r vm]

/-- The events of amplitude writes one after another, each fast exactly when its register is the one latched by the selected
chip (R133, R230). -/
def ampEvents : BusTracker → List (Chip × RegAddr × Byte) → List BusEvent
  | _, [] => []
  | b, (c, r, v) :: rest =>
    (if b.selCache = some c ∧ b.latchValid = true ∧ b.latchReg = r then [.data c r v]
      else writeEvents b.selCache c r v) ++ ampEvents ⟨some c, true, r⟩ rest

/-- Whether an event is a data event of register r of chip c. -/
def BusEvent.isDataAt (c : Chip) (r : RegAddr) : BusEvent → Bool
  | .data c' r' _ => decide (c' = c ∧ r' = r)
  | .sel _ => false
  | .addr _ _ => false

/-- Whether an event is a data event. -/
def BusEvent.isData : BusEvent → Bool
  | .data _ _ _ => true
  | .sel _ => false
  | .addr _ _ => false

/-- Whether an event is a selection pulse. -/
def BusEvent.isSel : BusEvent → Bool
  | .sel _ => true
  | .addr _ _ => false
  | .data _ _ _ => false

/-- The selection pulses of a sequence of jobs, from a selection cache (R137): one for each full write whose chip differs from
the one selected before, and one for each explicit selection. A fast write makes none. -/
def pulses : Option Chip → List JobReq → Nat
  | _, [] => 0
  | cache, j :: rest =>
    match j.kind with
    | .select => 1 + pulses (some j.chip) rest
    | .fast => pulses cache rest
    | .write => (if cache = some j.chip then 0 else 1) + pulses (some j.chip) rest
    | .amp => (if cache = some j.chip then 0 else 1) + pulses (some j.chip) rest

/-- The amplitude writes of an activation over combinations k (R224, R225): the armed ones, in order. -/
def ampWrites (s : State) (ks : List (Fin 9)) : List (Chip × RegAddr × Byte) :=
  ((ks.map comboOf).filter (fun cv => armed s cv.1 cv.2)).map
    (fun cv => (cv.1, volumeReg cv.2, (ampValue s cv.1 cv.2).setWidth 8))

/-- The shadow index `LV(v)` of a voice's level (R230). -/
def levelIdx : Voice → ShIdx
  | 0 => .lva
  | 1 => .lvb
  | 2 => .lvc

/-- One activation of the scheduler in the mode of the machine (R220, R227, R228). -/
def activation (s : State) : State :=
  match exec (decodeTick s.mode) s with
  | .next t => t
  | .fault _ => s
  | .refused _ => s

/-- The state after n activations: activation n, counted from 0, starts there. -/
def afterActivations : Nat → State → State
  | 0, s => s
  | n + 1, s => activation (afterActivations n s)

/-- The events an operation appends to the trace. -/
def newEvents (s t : State) : List BusEvent := t.trace.drop s.trace.length

/-- The step about to be made ends an accepted READ_STATUS: in its final cycle, as the event Complete, or as the whole
transaction (R142, R145, R291). -/
def endsReadStatus (s : State) : Bool :=
  let final := decide (s.tx.owner = .host ∧ s.tx.txPhase = .final)
  let ends :=
    match s.schedule with
    | [] => final
    | .cycle i :: _ => !i.rst && final
    | .event .complete :: _ => decide (s.tx.owner = .host)
    | .event (.byte _) :: _ => false
    | .event .timeout :: _ => false
    | .event .tick :: _ => false
    | .event (.offer _) :: _ => false
    | .event (.grant _) :: _ => false
    | .transaction :: _ => decide (arbitrate s = .host)
  ends && decide (s.host.hostCmd = 0x60000000)

/-- The receiver's state after a byte at an offset below 16 (R172). -/
def rxWithByte (rx : Receiver) (b : Byte) (h : rx.rxCount.val < 16) : Receiver :=
  ⟨rx.rxBuf.set rx.rxCount.val b h, ⟨rx.rxCount.val + 1, by omega⟩, 0⟩

/-! ### The words of the claims: encodings and waveforms -/

/-- The must-be-zero bits of each opcode below 7 (R96). -/
def mustBeZero (op : Nat) : HostWord :=
  if op = 1 then 0x03FFFFFF
  else if op = 2 ∨ op = 3 then 0x001F00FF
  else if op = 4 then 0x001F0000
  else if op = 5 then 0x001FFFFF
  else 0x0FFFFFFF

/-- The checks of R98 in their order, on the numbers of a word's fields. -/
def hostVerdict (w : HostWord) (b : BusTracker) : BitVec 3 :=
  let op := w.toNat / 2 ^ 28
  let chip := w.toNat / 2 ^ 26 % 4
  let reg := w.toNat / 2 ^ 21 % 32
  if 7 ≤ op then 1
  else if w &&& mustBeZero op ≠ 0 then 2
  else if 1 ≤ op ∧ op ≤ 5 ∧ chip = 3 then 3
  else if (op = 4 ∨ op = 5) ∧ reg ∉ [7, 8, 9, 10, 14, 15] then 4
  else if op = 3 ∧ ¬ (b.selCache.map Fin.val = some chip ∧ b.latchValid = true ∧ b.latchReg.toNat = reg) then 5
  else 0

/-- The phases of a job (R104). -/
def phasesOf (kind : JobKind) (selected : Bool) : List BePhase :=
  match kind, selected with
  | .select, _ => [.sel]
  | .write, true => [.asu, .ast, .ahd, .dsu, .dst, .dhd]
  | .write, false => [.sel, .asu, .ast, .ahd, .dsu, .dst, .dhd]
  | .fast, _ => [.dsu, .dst, .dhd]

/-- Those phases cycle by cycle (R127). -/
def phaseCycles (cfg : Config) (ps : List BePhase) : List BePhase :=
  ps.flatMap (fun p => List.replicate (phaseLength cfg p) p)

/-- The pins of one cycle of a job, from the phase table (R103): `held` where the table has no value. -/
def PhasePins (cfg : Config) (j : Job) (p : BePhase) (before now : BusPins) : Prop :=
  now.selStbO = decide (p = .sel) ∧ now.asO = decide (p = .ast) ∧ now.dsO = decide (p = .dst) ∧
  now.selO = (if p = .sel then cfg.selCode j.chip else before.selO) ∧
  now.dO = (if p = .asu ∨ p = .ast ∨ p = .ahd then j.reg.setWidth 8
    else if p = .dsu ∨ p = .dst ∨ p = .dhd then j.vm
    else before.dO)

end Sys2Proof.Machine
end

