-- ==== Sys2Proof/Certificates/Slice0/Obligations.lean ====
section
/-! DEFINITION. The statements for the provers. Each docstring names the rules it formalises; where a clause rests on a choice
of the model, it says so and names the log entry. -/

open Sys2Proof Sys2Proof.Machine

/-! ### Encoding and decoding -/

/-- One word of every row of the opcode table, bit by bit as R95, R81 and R102 lay the fields out, decodes to its operation. -/
def Obligations.WordsDecodeAsTheSpecWritesThem : Prop :=
  decodeHost 0x00000000 = .ok .nop ∧
  decodeHost 0b0001_10_00000_00000_00000000_00000000 = .ok (.select 2) ∧
  decodeHost 0b0010_00_00111_00000_00111000_00000000 = .ok (.write 0 7 0x38) ∧
  decodeHost 0b0011_01_01010_00000_00000101_00000000 = .ok (.writeFast 1 10 0x05) ∧
  decodeHost 0b0100_00_00111_00000_00000111_11111000 = .ok (.rmw 0 7 0x07 0xF8) ∧
  decodeHost 0b0101_10_01111_00000_00000000_00000000 = .ok (.readShadow 2 15) ∧
  decodeHost 0x60000000 = .ok .readStatus ∧
  decodeHost 0b0111_0000000000000000000000000001 = .ok (.reservedOp7 1) ∧
  decodeHost 0b1000_0000000000000000000000000010 = .ok (.reservedOp8 2) ∧
  decodeHost 0b1001_0000000000000000000000000100 = .ok (.reservedOp9 4) ∧
  decodeHost 0b1010_0000000000000000000000001000 = .ok (.reservedOpA 8) ∧
  decodeHost 0b1011_1100000000000000000000000000 = .ok (.reservedOpB 0xC000000) ∧
  decodeHost 0b1100_0010000000000000000000000000 = .ok (.reservedOpC 0x2000000) ∧
  decodeHost 0b1101_0000000100000000000000000000 = .ok (.reservedOpD 0x100000) ∧
  decodeHost 0b1110_0000000000001000000000000000 = .ok (.reservedOpE 0x8000) ∧
  decodeHost 0b1111_0000000000000000000000000000 = .ok (.reservedOpF 0) ∧
  decodeHost 0x10000001 = .error .reservedBits ∧
  decode (.bytes [2, 10, 11, 12, 13, 14, 15, 16, 17, 18, 19, 20, 21, 22, 23, 24, 25]) =
    .ok (.frame #v[2, 10, 11, 12, 13, 14, 15, 16, 17, 18, 19, 20, 21, 22, 23, 24, 25]) ∧
  decode (.slot1 #v[0, 0, 0x20, 0, 0, 0, 0, 0x60, 0, 0, 0, 0, 0, 0, 0, 9, 0]) = .ok (.slot1 0 2 3 9) ∧
  decode (.slot2 #v[1, 0, 0, 0, 0x20, 0, 0, 0, 0, 0x60, 0x05, 0, 0, 0, 0, 0, 0]) = .ok (.slot2 1 2 3 0 5) ∧
  decode (.slot2 #v[2, 0, 0, 0, 0x30, 0, 0, 0, 0, 0xA1, 0x02, 0xE4, 0, 0, 0, 0, 7]) = .ok (.slot2 2 3 5 7 4) ∧
  decode (.tick .direct) = .ok .tickDirect ∧
  decode (.tick .rr) = .ok .tickRr

/-- Every well-formed operation is what its encoding decodes to, whatever its operands (R95, R96, R81 to R90, R102). -/
def Obligations.DecodeInvertsEncode : Prop :=
  ∀ i : Instr, i.wf = true → decode (encode i) = .ok i

/-- The host decoder is total and drops no bit: a word decodes to an operation whose encoding is that word, or its opcode is
below 7 and it has a must-be-zero bit set (R96, R100). -/
def Obligations.EncodeInvertsHostDecode : Prop :=
  ∀ w : HostWord,
    (∃ i, decodeHost w = .ok i ∧ encode i = .word w) ∨
    (decodeHost w = .error .reservedBits ∧ w.toNat / 2 ^ 28 < 7 ∧ w &&& mustBeZero (w.toNat / 2 ^ 28) ≠ 0)

/-- A frame is its first 17 bytes, whatever follows; fewer are no frame; a frame whose first byte is 3 or more is none
(R80, R85, R94). -/
def Obligations.FramesAreSeventeenBytes : Prop :=
  ∀ (f : Frame) (rest : List Byte),
    (f[0].toNat ≤ 2 → decodeSerial (f.toList ++ rest) = .ok (.frame f, rest)) ∧
    (3 ≤ f[0].toNat → decodeSerial (f.toList ++ rest) = .error .badChip) ∧
    (∀ n, n < 17 → decodeSerial (f.toList.take n) = .error .shortFrame)

/-! ### The step -/

/-- The step follows the schedule. With a transaction next it fetches what the arbiter takes, decodes it and executes it; with
a cycle next it is that clock cycle; with nothing scheduled it is a cycle in which nothing arrives. The schedule moves on by
one item and nothing else happens around them (R285, R286, R290; the schedule is the model's, log 4). -/
def Obligations.StepExecutesTheDecodedOperation : Prop :=
  ∀ (s : State) (rest : List Stimulus),
    (∀ e i, s.schedule = .transaction :: rest → fetch s = some e → decode e = .ok i →
      step s = exec i { s with schedule := rest }) ∧
    (∀ i, s.schedule = .cycle i :: rest → step s = .next (cycle i { s with schedule := rest })) ∧
    (s.schedule = [] → step s = .next (cycle .idle s))

/-- The interface's placement of a word: the very next step executes exactly the operation the word decodes to, a tick for a
row of no bits (log 25). -/
def Obligations.PlacedWordIsExecutedNext : Prop :=
  ∀ (s : State) (nbits w : Nat),
    (∀ i, decodeTableWord nbits w = some i →
      step (s.withFetchWord nbits w) = exec i { s.withFetchWord nbits w with schedule := s.schedule }) ∧
    step (s.withFetchWord 0 w) = exec (decodeTick s.mode) { s.withFetchWord 0 w with schedule := s.schedule }

/-- No operation stops the machine: every operation answers a next state in every state (R270, R299). -/
def Obligations.EveryOperationCompletes : Prop :=
  ∀ (i : Instr) (s : State), ∃ t, exec i s = .next t

/-! ### Host commands -/

/-- NOP answers OK and 0x00 and changes nothing else (R132). -/
def Obligations.NopAnswersOk : Prop :=
  ∀ s : State, ∃ t, exec .nop s = .next t ∧ HostDone t 0 0 ∧ t.status = s.status ∧ HostFrame s t ∧ BusKept s t

/-- SELECT always makes a selection pulse, even of the chip already selected, and invalidates the latch tracker (R134, R121). -/
def Obligations.SelectAlwaysPulses : Prop :=
  ∀ (s : State) (chip : BitVec 2) (c : Chip), chip.toNat = c.val →
    ∃ t, exec (.select chip) s = .next t ∧ HostDone t 0 0 ∧ t.status = s.status ∧ HostFrame s t ∧
      t.trace = s.trace ++ [.sel c] ∧
      t.bus = { selCache := some c, latchValid := false, latchReg := s.bus.latchReg } ∧
      t.shadow = s.shadow ∧ t.latch = s.latch ∧ (∀ a, t.mem.read a = s.mem.read a)

/-- WRITE, for every register 0..31: a selection only if the chip differs, then the address, then the masked value; the chip's
register and the shadow take it, and no other register of any chip and no other shadow byte changes (R135, R121, R122, R126). The chip is the ideal chip of R62;
that it stores so at registers 16..31 too is the model's choice (log 27). -/
def Obligations.WriteStoresTheMaskedValue : Prop :=
  ∀ (s : State) (chip : BitVec 2) (c : Chip) (r : RegAddr) (v : Byte), chip.toNat = c.val →
    ∃ t, exec (.write chip r v) s = .next t ∧ HostDone t 0 0 ∧ t.status = s.status ∧ HostFrame s t ∧
      t.trace = s.trace ++ writeEvents s.bus.selCache c r (v &&& maskOf r) ∧
      t.bus = ⟨some c, true, r⟩ ∧
      (∀ c' i, t.shadowAt c' i = if c' = c ∧ shReg i = r then v &&& maskOf r else s.shadowAt c' i) ∧
      (∀ a, t.mem.read a = if a = chipRegAddr c r then some (v &&& maskOf r) else s.mem.read a) ∧
      (∀ c', t.latch.get c' = if c' = c then some r else s.latch.get c')

/-- WRITE_FAST where it is legal: one data phase, no selection, no address; it reaches register r of the chip, because the
tracker is right about the chip's latch (R133, R136). For registers 16..31 the chip's part is the model's choice (log 27). -/
def Obligations.WriteFastReachesTheLatchedRegister : Prop :=
  ∀ (s : State) (chip : BitVec 2) (c : Chip) (r : RegAddr) (v : Byte),
    chip.toNat = c.val → LatchOk s → s.bus = ⟨some c, true, r⟩ →
    ∃ t, exec (.writeFast chip r v) s = .next t ∧ HostDone t 0 0 ∧ t.status = s.status ∧ HostFrame s t ∧
      t.trace = s.trace ++ [.data c r (v &&& maskOf r)] ∧
      t.bus = s.bus ∧ t.latch = s.latch ∧
      (∀ c' i, t.shadowAt c' i = if c' = c ∧ shReg i = r then v &&& maskOf r else s.shadowAt c' i) ∧
      (∀ a, t.mem.read a = if a = chipRegAddr c r then some (v &&& maskOf r) else s.mem.read a)

/-- RMW: the shadow byte ANDed, then ORed; written as a full write; the masked value written is the answer (R139). -/
def Obligations.RmwUpdatesTheShadowedRegister : Prop :=
  ∀ (s : State) (chip : BitVec 2) (c : Chip) (i : ShIdx) (o a : Byte), chip.toNat = c.val →
    let new := ((s.shadowAt c i &&& a) ||| o) &&& maskOf (shReg i)
    ∃ t, exec (.rmw chip (shReg i) o a) s = .next t ∧ HostDone t 0 new ∧ t.status = s.status ∧ HostFrame s t ∧
      t.trace = s.trace ++ writeEvents s.bus.selCache c (shReg i) new ∧
      t.bus = ⟨some c, true, shReg i⟩ ∧
      (∀ c' j, t.shadowAt c' j = if c' = c ∧ j = i then new else s.shadowAt c' j) ∧
      (∀ b, t.mem.read b = if b = chipRegAddr c (shReg i) then some new else s.mem.read b) ∧
      (∀ c', t.latch.get c' = if c' = c then some (shReg i) else s.latch.get c')

/-- READ_SHADOW answers the shadow byte and touches nothing (R141). -/
def Obligations.ReadShadowAnswersTheShadow : Prop :=
  ∀ (s : State) (chip : BitVec 2) (c : Chip) (i : ShIdx), chip.toNat = c.val →
    ∃ t, exec (.readShadow chip (shReg i)) s = .next t ∧ HostDone t 0 (s.shadowAt c i) ∧ t.status = s.status ∧
      HostFrame s t ∧ BusKept s t

/-- READ_STATUS answers STATUS and clears it (R142). -/
def Obligations.ReadStatusReadsAndClears : Prop :=
  ∀ s : State, ∃ t, exec .readStatus s = .next t ∧ HostDone t 0 s.status ∧ t.status = 0 ∧ HostFrame s t ∧ BusKept s t

/-- The nine reserved opcodes answer E_BADOP and 0x00, set HOST_ERR and do nothing else, whatever their other bits (R143). -/
def Obligations.ReservedOpcodesAnswerBadOp : Prop :=
  ∀ (s : State) (low : BitVec 28) (i : Instr),
    i ∈ [Instr.reservedOp7 low, .reservedOp8 low, .reservedOp9 low, .reservedOpA low, .reservedOpB low, .reservedOpC low,
      .reservedOpD low, .reservedOpE low, .reservedOpF low] →
    ∃ t, exec i s = .next t ∧ RejectedWith s t 1

/-- The value checks of R97: CHIP = 3, a register without a shadow, a fast write that is not legal. Each answers its code and
0x00, sets HOST_ERR and does nothing else. -/
def Obligations.ValueChecksReject : Prop :=
  ∀ (s : State) (chip : BitVec 2) (r : RegAddr) (v a : Byte),
    (chip = 3 →
      ∀ i ∈ [Instr.select chip, .write chip r v, .writeFast chip r v, .rmw chip r v a, .readShadow chip r],
        ∃ t, exec i s = .next t ∧ RejectedWith s t 3) ∧
    (chip ≠ 3 → (∀ j, shReg j ≠ r) →
      ∀ i ∈ [Instr.rmw chip r v a, .readShadow chip r], ∃ t, exec i s = .next t ∧ RejectedWith s t 4) ∧
    (∀ c : Chip, chip.toNat = c.val →
      ¬ (s.bus.selCache = some c ∧ s.bus.latchValid = true ∧ s.bus.latchReg = r) →
      ∃ t, exec (.writeFast chip r v) s = .next t ∧ RejectedWith s t 5)

/-- A host word that is granted is answered with the code of the first check it fails, in the order of R98, and with OK when
it fails none. -/
def Obligations.HostChecksRunInOrder : Prop :=
  ∀ (s : State) (rest : List Stimulus), s.schedule = .transaction :: rest → arbitrate s = .host →
    ∃ t, step s = .next t ∧ t.host.hErrO = hostVerdict s.host.hostCmd s.bus

/-- A rejected host word, whichever check it fails, has no job and changes nothing but HOST_ERR, `hostPending` and the result
outputs (R129, R275). -/
def Obligations.RejectedWordsChangeNothingElse : Prop :=
  ∀ (s : State) (rest : List Stimulus), s.schedule = .transaction :: rest → arbitrate s = .host →
    hostVerdict s.host.hostCmd s.bus ≠ 0 →
    ∃ t, step s = .next t ∧ RejectedWith { s with schedule := rest } t (hostVerdict s.host.hostCmd s.bus)

/-! ### FRAME and its slots -/

/-- FRAME: 14 masked full writes in increasing register order, the indicator toggled, the hold released; then the slots'
effects, those of SLOT1 and SLOT2 on the raw fields, ID2 from the volume byte of the voice V2 names; nothing else (R178 to R182,
R187). With V2 = 0 there is no ID2, and SLOT2 does nothing whatever the id (R185). -/
def Obligations.FrameWritesFourteenRegisters : Prop :=
  ∀ (s : State) (f : Frame) (c : Chip), f[0].toNat = c.val →
    let v2 : BitVec 2 := f[4].extractLsb' 4 2
    let id2 : BitVec 5 := (f[9 + (v2.toNat - 1)]'(by have := v2.isLt; omega)).extractLsb' 0 5
    ∃ t, exec (.frame f) s = .next t ∧ CommonFrame s t ∧ HostRegsKept s t ∧ t.status = s.status ∧
      t.rrSlot = s.rrSlot ∧ t.tick = s.tick ∧ t.hold = { s.hold with holdFull := false } ∧
      (∀ c', t.led.get c' = if c' = c then !s.led.get c' else s.led.get c') ∧
      t.trace = s.trace ++ ((if s.bus.selCache = some c then [] else [.sel c]) ++
        (List.finRange 14).flatMap (fun r =>
          [.addr c (BitVec.ofNat 5 r.val), .data c (BitVec.ofNat 5 r.val) (f[r.val + 1] &&& maskTable[r])])) ∧
      t.bus = ⟨some c, true, 13⟩ ∧
      (∃ t1, exec (.slot1 c (f[2].extractLsb' 4 2) (f[7].extractLsb' 5 3) f[15]) s = .next t1 ∧ t.ts = t1.ts) ∧
      (∃ t2, exec (.slot2 c v2 (f[9].extractLsb' 5 3) f[16] id2) s = .next t2 ∧ t.sp = t2.sp)

/-- What a FRAME leaves in the chips and in the shadow: registers 0 to 13 of its chip hold the masked bytes, the shadowed ones
of them stand in the shadow, and every other register and shadow byte is as before (R126, R179, R190). -/
def Obligations.FrameStoresOnlyItsChipsRegisters : Prop :=
  ∀ (s : State) (f : Frame) (c : Chip), f[0].toNat = c.val →
    ∃ t, exec (.frame f) s = .next t ∧
      (∀ r : Fin 14, t.mem.read (chipRegAddr c (BitVec.ofNat 5 r.val)) = some (f[r.val + 1] &&& maskTable[r])) ∧
      (∀ a, (∀ r : Fin 14, a ≠ chipRegAddr c (BitVec.ofNat 5 r.val)) → t.mem.read a = s.mem.read a) ∧
      t.shadow.get c = ⟨f[8], f[9] &&& 0x1F, f[10] &&& 0x1F, f[11] &&& 0x1F, s.shadowAt c .pa, s.shadowAt c .pb⟩ ∧
      (∀ c', c' ≠ c → t.shadow.get c' = s.shadow.get c' ∧ t.latch.get c' = s.latch.get c') ∧
      t.latch.get c = some 13

/-- A frame whose first byte is 3 or more is discarded: RX_BADCHIP, and no bus event, no indicator, no effect, no released hold
(R174, R186; that `exec` answers so where no such frame is ever granted is the model's choice, log 16). -/
def Obligations.BadChipFrameIsDiscarded : Prop :=
  ∀ (s : State) (f : Frame), 3 ≤ f[0].toNat →
    ∃ t, exec (.frame f) s = .next t ∧ t.status = s.status ||| 0x02 ∧ BusKept s t ∧ EffectsKept s t ∧ HostRegsKept s t ∧
      t.cfg = s.cfg ∧ t.mode = s.mode ∧ t.be = s.be ∧ t.rx = s.rx ∧ t.tick = s.tick ∧ t.hold = s.hold ∧ t.led = s.led ∧
      t.tx = s.tx ∧ t.schedule = s.schedule

/-- SLOT1 under both policies: the named voice is armed with level, reload and countdown and a cleared toggle when the reload
is not 0; EXCLUSIVE stops every other voice of the chip, PERSIST only a named voice whose reload is 0; stopping clears `active`
alone; everything else is as before (R183, R184, R88, R90). -/
def Obligations.Slot1ArmsOrStops : Prop :=
  ∀ (s : State) (c : Chip) (voice : BitVec 2) (presc : BitVec 3) (count : Byte),
    let ticks := (count.toNat + 1) * (s.cfg.prescale presc).toNat
    ∃ t, exec (.slot1 c voice presc count) s = .next t ∧
      (∀ v : Voice, t.tsAt c v =
        if voice.toNat = v.val + 1 ∧ ticks ≠ 0 then
          { active := true, level := BitVec.ofNat 4 (min (count.toNat % 32) 15), reload := BitVec.ofNat 16 ticks,
            countdown := BitVec.ofNat 16 ticks, toggle := false }
        else if s.cfg.tsPolicy = .exclusive ∨ voice.toNat = v.val + 1 then { s.tsAt c v with active := false }
        else s.tsAt c v) ∧
      (∀ (c' : Chip) (v : Voice), c' ≠ c → t.tsAt c' v = s.tsAt c' v) ∧
      { t with ts := s.ts } = s

/-- SLOT2: no voice, nothing; otherwise the voice is armed at the start of the sample, or stopped when the reload or the
sample's length is 0; everything else is as before (R183, R185). -/
def Obligations.Slot2ArmsOrStops : Prop :=
  ∀ (s : State) (c : Chip) (voice : BitVec 2) (presc : BitVec 3) (count : Byte) (id : BitVec 5),
    let ticks := (count.toNat + 1) * (s.cfg.prescale presc).toNat
    ∃ t, exec (.slot2 c voice presc count id) s = .next t ∧
      (∀ v : Voice, t.spAt c v =
        if voice.toNat = v.val + 1 then
          (if ticks = 0 ∨ (s.cfg.lenOf id).toNat = 0 then { s.spAt c v with active := false }
          else { active := true, id := id, pos := 0, reload := BitVec.ofNat 16 ticks, countdown := BitVec.ofNat 16 ticks })
        else s.spAt c v) ∧
      (∀ (c' : Chip) (v : Voice), c' ≠ c → t.spAt c' v = s.spAt c' v) ∧
      { t with sp := s.sp } = s

/-! ### The scheduler -/

/-- TICK_DIRECT: the pending tick is taken; the armed combinations are written in increasing order, each as a fast write
exactly when its register is latched; then everything advances; nothing else changes (R221, R224, R227, R229, R230). The slot stays in DIRECT mode; what this form does
to it under the other MODE, where no step runs it, is the model's choice (log 15). -/
def Obligations.TickDirectWritesEveryArmedVoice : Prop :=
  ∀ s : State, ∃ t, exec .tickDirect s = .next t ∧ CommonFrame s t ∧ HostRegsKept s t ∧ t.status = s.status ∧
    t.hold = s.hold ∧ t.led = s.led ∧ t.tick.tickPending = false ∧
    t.rrSlot.toNat = (if s.mode = .rr then (s.rrSlot.toNat + 1) % 8 else s.rrSlot.toNat) ∧
    t.trace = s.trace ++ ampEvents s.bus (ampWrites s (List.finRange 9)) ∧
    (∀ c v, t.shadowAt c (levelIdx v) =
      if armed s c v then (ampValue s c v).setWidth 8 else s.shadowAt c (levelIdx v)) ∧
    (∀ c i, i = .mix ∨ i = .pa ∨ i = .pb → t.shadowAt c i = s.shadowAt c i) ∧
    (t.bus = match (ampWrites s (List.finRange 9)).getLast? with
      | some (c, r, _) => ⟨some c, true, r⟩
      | none => s.bus)

/-- TICK_RR: the same with the one combination of `rrSlot`, or none when it is not armed; in RR mode the slot moves on (R225,
R228, R229, R230). That it stays when this form is executed under the other MODE, where no step runs it, is the model's choice
(log 15). -/
def Obligations.TickRrWritesTheSlotsVoice : Prop :=
  ∀ (s : State) (k : Fin 9), k.val = s.rrSlot.toNat →
    ∃ t, exec .tickRr s = .next t ∧ CommonFrame s t ∧ HostRegsKept s t ∧ t.status = s.status ∧
    t.hold = s.hold ∧ t.led = s.led ∧ t.tick.tickPending = false ∧
    t.rrSlot.toNat = (if s.mode = .rr then (s.rrSlot.toNat + 1) % 8 else s.rrSlot.toNat) ∧
    t.trace = s.trace ++ ampEvents s.bus (ampWrites s [k]) ∧
    (∀ c v, t.shadowAt c (levelIdx v) =
      if armed s c v ∧ 3 * c.val + v.val = k.val then (ampValue s c v).setWidth 8 else s.shadowAt c (levelIdx v)) ∧
    (∀ c i, i = .mix ∨ i = .pa ∨ i = .pb → t.shadowAt c i = s.shadowAt c i) ∧
    (t.bus = match (ampWrites s [k]).getLast? with
      | some (c, r, _) => ⟨some c, true, r⟩
      | none => s.bus)

/-- What an activation leaves in the chips, when the latch tracker is right: the amplitude register of every voice it writes
holds the amplitude, and every other register of every chip is as before (R126, R224, R225, R230). -/
def Obligations.TicksStoreOnlyAmplitudes : Prop :=
  ∀ (s : State) (ks : List (Fin 9)) (i : Instr), LatchOk s →
    (i = .tickDirect ∧ ks = List.finRange 9) ∨ (i = .tickRr ∧ ks.map Fin.val = [s.rrSlot.toNat]) →
    ∃ t, exec i s = .next t ∧ LatchOk t ∧
      (∀ c r vm, (c, r, vm) ∈ ampWrites s ks → t.mem.read (chipRegAddr c r) = some vm) ∧
      (∀ a, (∀ c r vm, (c, r, vm) ∈ ampWrites s ks → a ≠ chipRegAddr c r) → t.mem.read a = s.mem.read a) ∧
      (∀ c, (∀ r vm, (c, r, vm) ∉ ampWrites s ks) → t.latch.get c = s.latch.get c)

/-- The timer-synth advance, in either form of an activation, whether or not the voice was written: at a countdown of 1 it is
reloaded and the toggle flips, otherwise it counts down; an inactive one is unchanged (R231, R229). -/
def Obligations.TimerSynthsAdvance : Prop :=
  ∀ (s : State) (i : Instr), i = .tickDirect ∨ i = .tickRr → ∃ t, exec i s = .next t ∧
    ∀ (c : Chip) (v : Voice), t.tsAt c v =
      let x := s.tsAt c v
      if x.active then
        (if x.countdown = 1 then { x with countdown := x.reload, toggle := !x.toggle }
        else { x with countdown := x.countdown - 1 })
      else x

/-- The sample advance: at a countdown of 1 the cursor moves on, and the sample ends when the new cursor is past its last byte;
a hidden sample advances too; an inactive one is unchanged (R232, R226). The cursor is compared as a number, before it is
stored in its 16 bits. -/
def Obligations.SamplesAdvance : Prop :=
  ∀ (s : State) (i : Instr), i = .tickDirect ∨ i = .tickRr → ∃ t, exec i s = .next t ∧
    ∀ (c : Chip) (v : Voice), t.spAt c v =
      let x := s.spAt c v
      if x.active then
        (if x.countdown = 1 then
          { x with
            countdown := x.reload, pos := x.pos + 1,
            active := !decide ((s.cfg.lenOf x.id).toNat ≤ x.pos.toNat + 1) }
        else { x with countdown := x.countdown - 1 })
      else x

/-- With both effects active on one voice, an activation makes exactly one data event for its amplitude register in DIRECT
mode, in RR mode exactly one when it is the slot's turn and none otherwise, and it carries the timer-synth's value (R235). -/
def Obligations.TimerSynthTakesPriority : Prop :=
  ∀ (s : State) (c : Chip) (v : Voice), (s.tsAt c v).active = true → (s.spAt c v).active = true →
    let event := BusEvent.data c (volumeReg v) (if (s.tsAt c v).toggle then (s.tsAt c v).level.setWidth 8 else 0)
    (∃ t, exec .tickDirect s = .next t ∧ (newEvents s t).filter (BusEvent.isDataAt c (volumeReg v)) = [event]) ∧
    (∃ t, exec .tickRr s = .next t ∧ (newEvents s t).filter (BusEvent.isDataAt c (volumeReg v)) =
      if s.rrSlot.toNat = 3 * c.val + v.val then [event] else [])

/-- The scheduler writes only registers 8, 9 and 10, each with a value 0..15, and the shadow follows (R237). -/
def Obligations.SchedulerTouchesOnlyLevels : Prop :=
  ∀ (s : State) (i : Instr), i = .tickDirect ∨ i = .tickRr → ∃ t, exec i s = .next t ∧
    (∀ c r vm, .data c r vm ∈ newEvents s t →
      (r = 8 ∨ r = 9 ∨ r = 10) ∧ vm.toNat ≤ 15 ∧ ∀ j, shReg j = r → t.shadowAt c j = vm)

/-- RR coverage, activations one after another with nothing between them: an activation makes at most one data event, for the
combination of the slot, and makes it when that one is armed; over 8 consecutive activations each combination 0..7 is the
slot's exactly once; combination 8, chip 2 voice C, is never written (R236). -/
def Obligations.RoundRobinCoversEightCombinations : Prop :=
  ∀ s : State, s.mode = .rr →
    (∀ n, ∃ t, exec .tickRr (afterActivations n s) = .next t ∧
      ∀ k : Fin 9, k.val = (afterActivations n s).rrSlot.toNat →
        let cv := comboOf k
        (newEvents (afterActivations n s) t).filter BusEvent.isData =
          if armed (afterActivations n s) cv.1 cv.2 then
            [.data cv.1 (volumeReg cv.2) ((ampValue (afterActivations n s) cv.1 cv.2).setWidth 8)]
          else []) ∧
    (∀ n (k : Fin 8), ∃! j : Fin 8, (afterActivations (n + j.val) s).rrSlot.toNat = k.val) ∧
    (∀ n t vm, exec .tickRr (afterActivations n s) = .next t → .data 2 10 vm ∉ newEvents (afterActivations n s) t)

/-- The timer-synth's waveform in DIRECT mode, activations one after another with nothing between them: from its arming with
reload T and level L, activation n writes L when (n div T) mod 2 = 1 and 0 otherwise (R233). -/
def Obligations.TimerSynthMakesASquareWave : Prop :=
  ∀ (s : State) (c : Chip) (v : Voice) (level : BitVec 4) (reload : BitVec 16),
    s.mode = .direct → 1 ≤ reload.toNat → s.tsAt c v = ⟨true, level, reload, reload, false⟩ →
    ∀ n, (newEvents (afterActivations n s) (afterActivations (n + 1) s)).filter (BusEvent.isDataAt c (volumeReg v)) =
      [.data c (volumeReg v) (if n / reload.toNat % 2 = 1 then level.setWidth 8 else 0)]

/-- Sample timing in DIRECT mode, activations one after another with nothing between them: from its arming with reload T, a sample of length N, on a voice without a timer-synth, has
activation n write the low nibble of its byte n div T for n < N·T; it is active until the end of activation N·T - 1 and no
later activation writes the voice (R234). -/
def Obligations.SamplesPlayOnceAndStop : Prop :=
  ∀ (s : State) (c : Chip) (v : Voice) (id : BitVec 5) (reload : BitVec 16),
    s.mode = .direct → 1 ≤ reload.toNat → (s.tsAt c v).active = false → s.spAt c v = ⟨true, id, 0, reload, reload⟩ →
    let bytes := s.cfg.sampleData[id.toNat]
    1 ≤ bytes.length → bytes.length = (s.cfg.lenOf id).toNat →
    ∀ n,
      ((afterActivations n s).spAt c v).active = decide (n < bytes.length * reload.toNat) ∧
      (newEvents (afterActivations n s) (afterActivations (n + 1) s)).filter (BusEvent.isDataAt c (volumeReg v)) =
        match bytes[n / reload.toNat]? with
        | some b => [.data c (volumeReg v) (b &&& 0x0F)]
        | none => []

/-! ### The write path and the transactions' lengths -/

/-- The write mask of every register: the table's for 0..13, 0xFF above (R84, R122). -/
def Obligations.WriteMasksAreTheTables : Prop :=
  ∀ r : RegAddr, maskOf r =
    if r = 1 ∨ r = 3 ∨ r = 5 ∨ r = 13 then 0x0F
    else if r = 6 ∨ r = 8 ∨ r = 9 ∨ r = 10 then 0x1F
    else 0xFF

/-- Over any sequence of bus jobs, the selection pulses are one for each full write whose chip differs from the chip selected
before it, and one for each explicit SELECT (R137). -/
def Obligations.SelectionPulsesCountChipChanges : Prop :=
  ∀ (s : State) (js : List JobReq),
    (runJobs js s).trace.countP BusEvent.isSel = s.trace.countP BusEvent.isSel + pulses s.bus.selCache js

/-- The lengths of R329: a FRAME's exactly, a host command's at most two cycles and one job, an activation's at most those of
nine full writes with three selections, in RR mode of one. -/
def Obligations.TransactionsAreBounded : Prop :=
  ∀ s : State,
    (∀ (c : Chip) (f : Frame), transactionLength (frameJobs c f) s =
      2 + (if s.bus.selCache = some c then 0 else s.cfg.nSel) + 14 * writeLength s.cfg) ∧
    transactionLength (directJobs s) s ≤ 2 + 3 * s.cfg.nSel + 9 * writeLength s.cfg ∧
    transactionLength (rrJobs s) s ≤ 2 + s.cfg.nSel + writeLength s.cfg ∧
    (∀ w, transactionLength (hostPlan w s).jobs s ≤ 2 + s.cfg.nSel + writeLength s.cfg)

/-! ### Level C: the clock cycle -/

/-- Reset: after a cycle with `rst = 1`, whatever the state and the other inputs were, every element has its reset value, the
parameters stay, and MODE is the strap; `h_ready` is 0 in that cycle and 1 in the first cycle without reset (R21, R310, R311).
The trace and the chips go on (R313), but that the chip whose bus job the reset cut, in any phase of it, has no known latch (U5),
and a byte whose data strobe it cut is not known; how the model says unknown is log 10's. That the all-zero `beJob` of R25 has
the kind SELECT is the model's reading (log 21). -/
def Obligations.ResetCycleClearsEverything : Prop :=
  ∀ (s : State) (i : PinsIn), i.rst = true →
    let t := cycle i s
    t.cfg = s.cfg ∧ t.mode = i.cfgMode ∧ t.bus = ⟨none, false, 0⟩ ∧ t.pins = ⟨s.cfg.selNone, false, false, false, 0⟩ ∧
    t.be = ⟨.idle, 0, ⟨.select, 0, 0, 0⟩⟩ ∧ (∀ c j, t.shadowAt c j = 0) ∧
    (∀ c v, t.tsAt c v = ⟨false, 0, 0, 0, false⟩ ∧ t.spAt c v = ⟨false, 0, 0, 0, 0⟩) ∧
    t.rrSlot = 0 ∧ t.tick = ⟨0, false⟩ ∧ (∀ k : Fin 16, t.rx.rxBuf[k] = 0) ∧ t.rx.rxCount = 0 ∧ t.rx.rxIdle = 0 ∧
    (∀ k : Fin 17, t.hold.hold[k] = 0) ∧ t.hold.holdFull = false ∧ (∀ c, t.led.get c = false) ∧
    t.host = ⟨false, 0, false, 0, 0⟩ ∧ t.status = 0 ∧ t.tx = ⟨.nobody, .grant, [], 0⟩ ∧
    hReady i s = false ∧ hReady .idle t = true ∧ t.trace = s.trace ∧
    (∀ c, t.latch.get c = if s.be.beState ≠ .idle ∧ s.be.beJob.chip = c then none else s.latch.get c) ∧
    (∀ c r, t.mem.read (chipRegAddr c r) =
      if s.be.beState = .dst ∧ s.be.beJob.chip = c ∧ (s.latch.get c = some r ∨ s.latch.get c = none) then none
      else s.mem.read (chipRegAddr c r))

/-- The parameters never change, and MODE is written by a reset cycle alone, with the strap (R21, R284). -/
def Obligations.ModeIsWrittenByResetAlone : Prop :=
  ∀ s t : State, step s = .next t → t.cfg = s.cfg ∧
    (resetNext s = false → t.mode = s.mode) ∧
    (∀ i rest, s.schedule = .cycle i :: rest → i.rst = true → t.mode = i.cfgMode)

/-- The arbiter: a free bus is given to the pending tick first, then to the foreground in the order of ARB_FG; with no request
it stays free; a taken bus is freed by the final cycle alone (R285). -/
def Obligations.ArbiterGrantsByPriority : Prop :=
  ∀ (s : State) (i : PinsIn), i.rst = false →
    (cycle i s).tx.owner =
      if s.tx.owner = .nobody then
        (if s.tick.tickPending then .sched
        else if s.cfg.arbFg = .frameFirst then
          (if s.hold.holdFull then .frame else if s.host.hostPending then .host else .nobody)
        else (if s.host.hostPending then .host else if s.hold.holdFull then .frame else .nobody))
      else if s.tx.txPhase = .final then .nobody
      else s.tx.owner

/-- The indicator of a chip toggles in the grant cycle of a FRAME for it, and never otherwise; `led_o` shows it (R180). -/
def Obligations.IndicatorTogglesAtFrameGrants : Prop :=
  ∀ (s : State) (i : PinsIn) (c : Chip), i.rst = false →
    (cycle i s).led.get c =
      (if arbitrate s = .frame ∧ s.hold.hold[0].toNat = c.val then !s.led.get c else s.led.get c) ∧
    (ledO s).get c = s.led.get c

/-- The host port: an offer is taken exactly when nothing is pending; a completion frees it (R128, R145). -/
def Obligations.HostPortTakesOneCommand : Prop :=
  ∀ (s : State) (i : PinsIn), i.rst = false →
    let completes := s.tx.owner = .host ∧ s.tx.txPhase = .final
    (cycle i s).host.hostPending =
      (if i.hValid = true ∧ s.host.hostPending = false then true else s.host.hostPending && !decide completes) ∧
    (cycle i s).host.hostCmd =
      (if i.hValid = true ∧ s.host.hostPending = false then i.hCmd else s.host.hostCmd) ∧
    (cycle i s).host.hDoneO = decide completes ∧
    (¬ completes → (cycle i s).host.hRdataO = s.host.hRdataO ∧ (cycle i s).host.hErrO = s.host.hErrO)

/-- The receiver: a byte goes to its offset, the 17th ends the frame; a silence of RX_TIMEOUT cycles drops a partial frame
(R172, R173). It runs so whatever the bus is doing (R177). -/
def Obligations.ReceiverAssemblesFrames : Prop :=
  ∀ (s : State) (i : PinsIn), i.rst = false →
    (i.rxValid = true → ∀ h : s.rx.rxCount.val < 16,
      (cycle i s).rx = ⟨s.rx.rxBuf.set s.rx.rxCount.val i.rxData h, ⟨s.rx.rxCount.val + 1, by omega⟩, 0⟩) ∧
    (i.rxValid = true → s.rx.rxCount.val = 16 → (cycle i s).rx = ⟨s.rx.rxBuf, 0, 0⟩) ∧
    (i.rxValid = false → s.rx.rxCount.val = 0 → (cycle i s).rx = { s.rx with rxIdle := 0 }) ∧
    (i.rxValid = false → 1 ≤ s.rx.rxCount.val → s.rx.rxIdle + 1 = s.cfg.rxTimeout →
      (cycle i s).rx = ⟨s.rx.rxBuf, 0, 0⟩) ∧
    (i.rxValid = false → 1 ≤ s.rx.rxCount.val → s.rx.rxIdle + 1 < s.cfg.rxTimeout →
      (cycle i s).rx = { s.rx with rxIdle := s.rx.rxIdle + 1 })

/-- The frame hold: a valid complete frame is held when the hold is free or is released in this very cycle; a full hold keeps
its frame until its FRAME transaction's final cycle releases it (R175, R181, R287). -/
def Obligations.HoldTakesValidFrames : Prop :=
  ∀ (s : State) (i : PinsIn), i.rst = false →
    let released := s.tx.owner = .frame ∧ s.tx.txPhase = .final
    let frame : Frame := s.rx.rxBuf.push i.rxData
    (cycle i s).hold =
      if i.rxValid = true ∧ s.rx.rxCount.val = 16 ∧ frame[0].toNat ≤ 2 ∧ (s.hold.holdFull = false ∨ released) then
        ⟨frame, true⟩
      else if released then { s.hold with holdFull := false }
      else s.hold

/-- The tick generator: the divider counts whatever the bus is doing; a tick leaves an activation pending, also in the cycle of
a SCHED grant; without a tick that grant clears it (R221, R283, R287). -/
def Obligations.TickGeneratorRaisesTicks : Prop :=
  ∀ (s : State) (i : PinsIn), i.rst = false →
    let ticks := s.tick.tickDiv = s.cfg.tickPeriod s.mode - 1
    (cycle i s).tick.tickDiv = (if ticks then 0 else s.tick.tickDiv + 1) ∧
    (cycle i s).tick.tickPending =
      (if ticks then true else s.tick.tickPending && !decide (arbitrate s = .sched))

/-- STATUS in a cycle: the flags of this cycle's events are set beside the old ones, but the final cycle of an accepted
READ_STATUS keeps only this cycle's (R276, R142). The premise is R37: the frame a transaction holds names a chip. -/
def Obligations.StatusCollectsTheCyclesEvents : Prop :=
  ∀ (s : State) (i : PinsIn), i.rst = false → HoldOk s →
    let final := s.tx.txPhase = .final
    let released := s.tx.owner = .frame ∧ final
    let frame : Frame := s.rx.rxBuf.push i.rxData
    let complete := i.rxValid = true ∧ s.rx.rxCount.val = 16
    let short := i.rxValid = false ∧ s.rx.rxCount.val ≠ 0 ∧ s.rx.rxIdle = s.cfg.rxTimeout - 1
    let badChip := complete ∧ 3 ≤ frame[0].toNat
    let overrun := complete ∧ frame[0].toNat ≤ 2 ∧ s.hold.holdFull = true ∧ ¬ released
    let lostTick := s.tick.tickDiv = s.cfg.tickPeriod s.mode - 1 ∧ s.tick.tickPending = true ∧ arbitrate s ≠ .sched
    let hostErr := s.tx.owner = .host ∧ final ∧ hostVerdict s.host.hostCmd s.bus ≠ 0
    (cycle i s).status =
      (if s.tx.owner = .host ∧ final ∧ s.host.hostCmd = 0x60000000 then 0 else s.status) |||
      (if short then 0x01 else 0) ||| (if badChip then 0x02 else 0) ||| (if overrun then 0x04 else 0) |||
      (if lostTick then 0x08 else 0) ||| (if hostErr then 0x10 else 0)

/-- Effect state changes in two places only: the final cycles of SCHED and FRAME transactions (R239). -/
def Obligations.EffectsChangeInFinalCyclesOnly : Prop :=
  ∀ (s : State) (i : PinsIn), i.rst = false →
    ¬ (s.tx.txPhase = .final ∧ (s.tx.owner = .sched ∨ s.tx.owner = .frame)) →
    EffectsKept s (cycle i s)

/-- Strobe order and stability (R131 (a), (c), (d); R103, R127). The two strobes are never up together. The data lines change
only in the first cycle of a setup phase, so they are held in IDLE, in a selection phase and in every cycle of a strobe; they do
not change in the N_SU cycles before a strobe rises, nor in the N_HD cycles after it falls. The select code changes only as a
selection phase begins, with both strobes down. -/
def Obligations.PinsAreStableAroundStrobes : Prop :=
  ∀ (s : State) (i : PinsIn), i.rst = false → BusInv s →
    let t := cycle i s
    ¬ (s.pins.asO = true ∧ s.pins.dsO = true) ∧
    (s.pins.asO = true ∨ s.pins.dsO = true ∨ t.pins.asO = true ∨ t.pins.dsO = true → t.pins.dO = s.pins.dO) ∧
    (t.pins.dO ≠ s.pins.dO → (t.be.beState = .asu ∨ t.be.beState = .dsu) ∧ t.be.beCnt = s.cfg.nSu) ∧
    (∀ js : List PinsIn, (∀ k ∈ js, k.rst = false) → js.length < s.cfg.nSu →
      (((cycles js s).pins.asO = false ∧ (cycle i (cycles js s)).pins.asO = true) ∨
        ((cycles js s).pins.dsO = false ∧ (cycle i (cycles js s)).pins.dsO = true)) →
      (cycle i (cycles js s)).pins.dO = s.pins.dO) ∧
    (∀ js : List PinsIn, (∀ k ∈ js, k.rst = false) → js.length < s.cfg.nHd →
      ((s.pins.asO = true ∧ t.pins.asO = false) ∨ (s.pins.dsO = true ∧ t.pins.dsO = false)) →
      (cycles js t).pins.dO = s.pins.dO) ∧
    (t.pins.selO ≠ s.pins.selO →
      t.pins.selStbO = true ∧ t.pins.asO = false ∧ t.pins.dsO = false ∧ s.pins.asO = false ∧ s.pins.dsO = false)

/-- A job's waveform: from the cycle it starts in, the engine runs the phases of R104 for its kind, each for its number of
cycles, with the pins of R103. So an address strobe is exactly N_APW cycles long, a data strobe N_DPW, and N_HD + N_SU cycles
lie between them (R131 (b), (e)). -/
def Obligations.JobsHaveTheirWaveform : Prop :=
  ∀ (s : State) (is : List PinsIn) (selected : Bool) (p : BePhase),
    s.tx.owner ≠ .nobody → s.tx.txPhase = .jobs → PinsOk s → (∀ i ∈ is, i.rst = false) →
    (phasesOf s.be.beJob.kind selected).head? = some s.be.beState → s.be.beCnt = phaseLength s.cfg s.be.beState →
    (phaseCycles s.cfg (phasesOf s.be.beJob.kind selected))[is.length]? = some p →
    (cycles is s).be.beState = p ∧ (cycles is s).be.beJob = s.be.beJob ∧
    PhasePins s.cfg s.be.beJob p s.pins (cycles is s).pins

/-! ### The two levels, and the chips -/

/-- Atomicity: from its grant cycle, over as many cycles as its length, whatever arrives meanwhile, a transaction's effect on
the shared state, the trace and the chips is that of running its operation as one atomic step (R73, R286, R292, R329); the host
sees its verdict, its byte and the end of its command in the cycle after (R99, R145). The byte of READ_STATUS alone may differ:
it is STATUS as it is in the final cycle (R142). -/
def Obligations.TransactionsAreAtomic : Prop :=
  ∀ (s : State) (is : List PinsIn), BusInv s → HoldOk s → arbitrate s ≠ .nobody → (∀ i ∈ is, i.rst = false) →
    is.length = transactionLength (grantJobs (arbitrate s) s) s →
    ∃ t, transaction s = .next t ∧ SharedEq (cycles is s) t ∧
      (cycles is s).latch = t.latch ∧ (∀ a, (cycles is s).mem.read a = t.mem.read a) ∧
      (arbitrate s = .host →
        (cycles is s).host.hErrO = t.host.hErrO ∧ (cycles is s).host.hDoneO = true ∧
        (cycles is s).host.hostPending = false ∧
        (cycles is s).host.hRdataO =
          if s.host.hostCmd = 0x60000000 then (cycles is.dropLast s).status else t.host.hRdataO)

/-- Level T's two halves make the whole: with the engine idle, the event Grant of the arbiter's choice and then the event
Complete leave exactly the state of the atomic transaction (R291, R292; which fields the engine's quiet state has is the
model's choice, log 7 to 9). -/
def Obligations.GrantThenCompleteIsTheTransaction : Prop :=
  ∀ s : State, arbitrate s ≠ .nobody → s.be.beState = .idle →
    ∃ u t, event (.grant (arbitrate s)) s = .next u ∧ event .complete u = .next t ∧ transaction s = .next t

/-- What the asynchronous events of level T do (R291, R172 to R175, R283, R128), and that they do nothing else but clear `h_done_o`
(the model's choice, log 8). Byte: into the buffer, or, as the 17th, a frame that is held, dropped for its chip or dropped for
overrun. Timeout: a partial frame dropped; with none it is not allowed. Tick: an activation pending, or lost. Offer: taken with
nothing pending, otherwise not allowed. That a step not allowed is refused is the model's choice (log 13). -/
def Obligations.LevelTEventsArrive : Prop :=
  ∀ s : State,
    (∀ b : Byte,
      let frame : Frame := s.rx.rxBuf.push b
      ∃ t, event (.byte b) s = .next t ∧
        { t with rx := s.rx, hold := s.hold, status := s.status, host := { t.host with hDoneO := s.host.hDoneO } } = s ∧
        (∀ h : s.rx.rxCount.val < 16, t.rx = rxWithByte s.rx b h ∧ t.hold = s.hold ∧ t.status = s.status) ∧
        (s.rx.rxCount.val = 16 → t.rx = ⟨s.rx.rxBuf, 0, 0⟩ ∧
          (t.hold, t.status) =
            if 3 ≤ frame[0].toNat then (s.hold, s.status ||| 0x02)
            else if s.hold.holdFull then (s.hold, s.status ||| 0x04)
            else (⟨frame, true⟩, s.status))) ∧
    (1 ≤ s.rx.rxCount.val → ∃ t, event .timeout s = .next t ∧
      t.rx = ⟨s.rx.rxBuf, 0, 0⟩ ∧ t.status = s.status ||| 0x01 ∧
      { t with rx := s.rx, status := s.status, host := { t.host with hDoneO := s.host.hDoneO } } = s) ∧
    (s.rx.rxCount.val = 0 → event .timeout s = .refused .eventNotAllowed) ∧
    (∃ t, event .tick s = .next t ∧ t.tick = ⟨s.tick.tickDiv, true⟩ ∧
      t.status = s.status ||| (if s.tick.tickPending then 0x08 else 0) ∧
      { t with tick := s.tick, status := s.status, host := { t.host with hDoneO := s.host.hDoneO } } = s) ∧
    (∀ w, s.host.hostPending = false → ∃ t, event (.offer w) s = .next t ∧
      t.host.hostPending = true ∧ t.host.hostCmd = w ∧
      { t with host := { t.host with hostPending := false, hostCmd := s.host.hostCmd, hDoneO := s.host.hDoneO } } = s) ∧
    (∀ w, s.host.hostPending = true → event (.offer w) s = .refused .eventNotAllowed)

/-- The receiver's and the tick's events at level T never reach the bus: no trace event, no indicator, no effect, no selection,
no shadow byte changes, so a discarded frame and a lost tick leave no trace but their flag (R186, R272). -/
def Obligations.DiscardsReachOnlyStatus : Prop :=
  ∀ (s t : State) (e : Event), (∃ b, e = .byte b) ∨ e = .timeout ∨ e = .tick → event e s = .next t →
    BusKept s t ∧ EffectsKept s t ∧ HostRegsKept s t ∧ t.led = s.led ∧ t.tx = s.tx ∧ t.be = s.be ∧
    t.cfg = s.cfg ∧ t.mode = s.mode ∧ t.schedule = s.schedule ∧
    s.status &&& t.status = s.status ∧ t.status &&& 0xF0 = s.status &&& 0xF0

/-- The chips cannot be read back: two machines that differ only in what their chips hold go on to differ only in that, in
every step (R61). -/
def Obligations.ChipsInfluenceNothing : Prop :=
  ∀ a b ta : State, SameButChips a b → step a = .next ta → ∃ tb, step b = .next tb ∧ SameButChips ta tb

/-- STATUS influences nothing: a machine with another STATUS goes on alike in everything but STATUS, except that a step which ends
an accepted READ_STATUS answers the STATUS of that machine (R142, R277). -/
def Obligations.StatusInfluencesNothing : Prop :=
  ∀ (s t : State) (x : BitVec 8), step s = .next t → ∃ t', step { s with status := x } = .next t' ∧
    (if endsReadStatus s then
      t.host.hRdataO = s.status ∧ t'.host.hRdataO = x ∧
      { t' with status := t.status, host := { t'.host with hRdataO := s.status } } = t
    else { t' with status := t.status } = t)

/-! ### Invariants -/

/-- Every invariant of Safety.lean holds in the reset state, whatever the parameters and the strap (R310). -/
def Obligations.ResetIsGood : Prop :=
  ∀ (cfg : Config) (m : Mode), cfg.Wf →
    let s := State.resetWith cfg m
    EffectsOk s ∧ StatusOk s ∧ HostErrOk s ∧ HoldOk s ∧ ReceiverOk s ∧ TickOk s ∧ MemOk s ∧ BusInv s ∧ MaskedOk s ∧
    ShadowAgrees s

/-- Every step keeps the effect invariants: an active record's countdown stays between 1 and its reload, and a playing
sample's cursor inside the sample (R28, R30). -/
def Obligations.StepsKeepEffectsOk : Prop :=
  ∀ s t : State, EffectsOk s → step s = .next t → EffectsOk t

/-- Every step keeps STATUS bits 7:5 at 0 (R277), the host error code at 5 or less (R99), the image canonical, the hold
register's invariant (R37), and the receiver's and the tick divider's bounds (R33, R36). -/
def Obligations.StepsKeepRegistersLegal : Prop :=
  ∀ s t : State, step s = .next t →
    (StatusOk s → StatusOk t) ∧ (HostErrOk s → HostErrOk t) ∧ (MemOk s → MemOk t) ∧ (HoldOk s → HoldOk t) ∧
    (s.cfg.Wf → ReceiverOk s → ReceiverOk t) ∧ (s.cfg.Wf → TickOk s → TickOk t)

/-- Every step keeps the bus invariant: the sequencer's phases, the pins of the running phase, the select code of the cached
chip, the running job's selection and latch, and a tracker that is right about the chips (R22, R23, R43, R103, R133). -/
def Obligations.StepsKeepBusInv : Prop :=
  ∀ s t : State, BusInv s → step s = .next t → BusInv t

/-- Every data event ever made is masked, and every step keeps it so (R122, R138). -/
def Obligations.StepsKeepTheTraceMasked : Prop :=
  ∀ s t : State, MaskedOk s → step s = .next t → MaskedOk t

/-- The shadow agrees with every known chip register it shadows, and every step but a reset cycle keeps it so (R75, R313). -/
def Obligations.StepsKeepTheShadowExact : Prop :=
  ∀ s t : State, BusInv s → ShadowAgrees s → resetNext s = false → step s = .next t → ShadowAgrees t
end

