-- ==== Sys2Proof/Laws/Triple.lean ====
section
/-! SUPPORT. The array laws of `Triple`: reading what was set, reading elsewhere, mapping. -/

namespace Sys2Proof

variable {α β : Type}

theorem Fin3.cases {p : Fin 3 → Prop} (h0 : p 0) (h1 : p 1) (h2 : p 2) (i : Fin 3) : p i := by
  match i with
  | 0 => exact h0
  | 1 => exact h1
  | 2 => exact h2

@[simp] theorem Triple.get_set_same (t : Triple α) (i : Fin 3) (x : α) : (t.set i x).get i = x := by
  revert i; exact Fin3.cases rfl rfl rfl

theorem Triple.get_set (t : Triple α) (i j : Fin 3) (x : α) : (t.set i x).get j = if j = i then x else t.get j := by
  revert j; revert i
  refine Fin3.cases ?_ ?_ ?_ <;> exact Fin3.cases rfl rfl rfl

theorem Triple.get_set_ne (t : Triple α) {i j : Fin 3} (h : j ≠ i) (x : α) : (t.set i x).get j = t.get j := by
  rw [Triple.get_set, if_neg h]

@[simp] theorem Triple.get_map (f : α → β) (t : Triple α) (i : Fin 3) : (t.map f).get i = f (t.get i) := by
  revert i; exact Fin3.cases rfl rfl rfl

@[simp] theorem Triple.get_replicate (x : α) (i : Fin 3) : (Triple.replicate x).get i = x := by
  revert i; exact Fin3.cases rfl rfl rfl

theorem Triple.ext_get {t u : Triple α} (h : ∀ i, t.get i = u.get i) : t = u := by
  have h0 := h 0
  have h1 := h 1
  have h2 := h 2
  cases t; cases u
  simp only [Triple.get] at h0 h1 h2
  subst h0 h1 h2
  rfl

@[simp] theorem Triple.set_get (t : Triple α) (i : Fin 3) : t.set i (t.get i) = t := by
  revert i; exact Fin3.cases rfl rfl rfl

end Sys2Proof
end

