-- ==== Sys2Proof/Laws/Memory.lean ====
section
/-! SUPPORT. The laws of the `CHIPREG` image: read after write, read elsewhere, forgetting, and that every operation keeps
the canonical form. -/

namespace Sys2Proof.Machine

theorem chipRegAddr_lt (c : Chip) (r : RegAddr) : chipRegAddr c r < memSize := by
  unfold chipRegAddr memSize
  have := r.isLt
  have := c.isLt
  omega

theorem chipRegAddr_inj {c c' : Chip} {r r' : RegAddr} (h : chipRegAddr c r = chipRegAddr c' r') : c = c' ∧ r = r' := by
  unfold chipRegAddr at h
  have h1 := r.isLt
  have h2 := r'.isLt
  exact ⟨Fin.ext (by omega), BitVec.eq_of_toNat_eq (by omega)⟩

theorem Memory.read_write_same (m : Memory) (a : Nat) (v : Byte) : (m.write a v).read a = some v := by
  induction m with
  | nil => simp [Memory.write, Memory.read]
  | cons cell m ih =>
    obtain ⟨k, w⟩ := cell
    unfold Memory.write
    split
    · simp [Memory.read]
    · split
      · simp [Memory.read]
      · rename_i h1 h2
        simp [Memory.read, Ne.symm h2, ih]

theorem Memory.read_write_ne (m : Memory) {a b : Nat} (h : b ≠ a) (v : Byte) : (m.write a v).read b = m.read b := by
  induction m with
  | nil => simp [Memory.write, Memory.read, Ne.symm h]
  | cons cell m ih =>
    obtain ⟨k, w⟩ := cell
    unfold Memory.write
    split
    · simp [Memory.read, Ne.symm h]
    · split
      · rename_i h1 h2
        subst h2
        simp [Memory.read, Ne.symm h]
      · simp [Memory.read, ih]

theorem Memory.read_forget (m : Memory) (first count a : Nat) :
    (m.forget first count).read a = if first ≤ a ∧ a < first + count then none else m.read a := by
  induction m with
  | nil => simp [Memory.forget, Memory.read]
  | cons cell m ih =>
    obtain ⟨k, w⟩ := cell
    have step : (Memory.forget ((k, w) :: m) first count) =
        if k < first ∨ first + count ≤ k then (k, w) :: Memory.forget m first count
        else Memory.forget m first count := by
      by_cases hk : k < first ∨ first + count ≤ k <;> simp [Memory.forget, hk]
    rw [step]
    by_cases hk : k < first ∨ first + count ≤ k
    · rw [if_pos hk]
      by_cases ha : k = a
      · subst ha
        simp only [Memory.read, if_true]
        rw [if_neg (by omega)]
      · simp [Memory.read, ha, ih]
    · rw [if_neg hk, ih]
      by_cases ha : k = a
      · subst ha
        rw [if_pos (by omega), if_pos (by omega)]
      · simp [Memory.read, ha]

theorem Memory.mem_write {m : Memory} {a : Nat} {v : Byte} {cell : Host.Cell} (h : cell ∈ m.write a v) :
    cell = (a, v) ∨ cell ∈ m := by
  induction m with
  | nil => simpa [Memory.write] using h
  | cons c m ih =>
    obtain ⟨k, w⟩ := c
    unfold Memory.write at h
    split at h
    · simpa using h
    · split at h
      · rcases List.mem_cons.mp h with h | h
        · exact .inl h
        · exact .inr (List.mem_cons_of_mem _ h)
      · rcases List.mem_cons.mp h with h | h
        · exact .inr (by simp [h])
        · rcases ih h with h | h
          · exact .inl h
          · exact .inr (List.mem_cons_of_mem _ h)

theorem Memory.pairwise_write {m : Memory} (h : List.Pairwise (fun x y : Host.Cell => x.1 < y.1) m) (a : Nat) (v : Byte) :
    List.Pairwise (fun x y : Host.Cell => x.1 < y.1) (m.write a v) := by
  induction m with
  | nil => simp [Memory.write]
  | cons c m ih =>
    obtain ⟨k, w⟩ := c
    obtain ⟨hk, hm⟩ := List.pairwise_cons.mp h
    unfold Memory.write
    split
    · rename_i hlt
      refine List.pairwise_cons.mpr ⟨?_, h⟩
      intro y hy
      rcases List.mem_cons.mp hy with rfl | hy
      · exact hlt
      · exact Nat.lt_trans hlt (hk y hy)
    · split
      · rename_i h1 h2
        subst h2
        exact List.pairwise_cons.mpr ⟨hk, hm⟩
      · refine List.pairwise_cons.mpr ⟨?_, ih hm⟩
        intro y hy
        rcases Memory.mem_write hy with rfl | hy
        · simp only
          omega
        · exact hk y hy

theorem Memory.wf_write {m : Memory} (h : m.wf) {a : Nat} (ha : a < memSize) (v : Byte) : (m.write a v).wf := by
  refine ⟨Memory.pairwise_write h.1 a v, ?_⟩
  intro cell hc
  rcases Memory.mem_write hc with rfl | hc
  · exact ha
  · exact h.2 cell hc

theorem Memory.wf_forget {m : Memory} (h : m.wf) (first count : Nat) : (m.forget first count).wf :=
  ⟨h.1.filter _, fun cell hc => h.2 cell (List.mem_filter.mp hc).1⟩

theorem Memory.wf_nil : Memory.wf [] := ⟨List.Pairwise.nil, by simp⟩

end Sys2Proof.Machine
end

