-- ==== Sys2Proof/Laws/State.lean ====
section
/-! SUPPORT. One lemma per field per update of the state: what each shared operation does to each field. -/

namespace Sys2Proof.Machine

variable (s : State)

/-! ### selEnd -/

@[simp] theorem selEnd_cfg (c : Chip) : (selEnd c s).cfg = s.cfg := rfl
@[simp] theorem selEnd_mode (c : Chip) : (selEnd c s).mode = s.mode := rfl
@[simp] theorem selEnd_bus (c : Chip) :
    (selEnd c s).bus = { s.bus with selCache := some c, latchValid := false } := rfl
@[simp] theorem selEnd_pins (c : Chip) : (selEnd c s).pins = s.pins := rfl
@[simp] theorem selEnd_be (c : Chip) : (selEnd c s).be = s.be := rfl
@[simp] theorem selEnd_shadow (c : Chip) : (selEnd c s).shadow = s.shadow := rfl
@[simp] theorem selEnd_ts (c : Chip) : (selEnd c s).ts = s.ts := rfl
@[simp] theorem selEnd_sp (c : Chip) : (selEnd c s).sp = s.sp := rfl
@[simp] theorem selEnd_rrSlot (c : Chip) : (selEnd c s).rrSlot = s.rrSlot := rfl
@[simp] theorem selEnd_tick (c : Chip) : (selEnd c s).tick = s.tick := rfl
@[simp] theorem selEnd_rx (c : Chip) : (selEnd c s).rx = s.rx := rfl
@[simp] theorem selEnd_hold (c : Chip) : (selEnd c s).hold = s.hold := rfl
@[simp] theorem selEnd_led (c : Chip) : (selEnd c s).led = s.led := rfl
@[simp] theorem selEnd_host (c : Chip) : (selEnd c s).host = s.host := rfl
@[simp] theorem selEnd_status (c : Chip) : (selEnd c s).status = s.status := rfl
@[simp] theorem selEnd_tx (c : Chip) : (selEnd c s).tx = s.tx := rfl
@[simp] theorem selEnd_trace (c : Chip) : (selEnd c s).trace = s.trace ++ [.sel c] := rfl
@[simp] theorem selEnd_latch (c : Chip) : (selEnd c s).latch = s.latch := rfl
@[simp] theorem selEnd_mem (c : Chip) : (selEnd c s).mem = s.mem := rfl
@[simp] theorem selEnd_schedule (c : Chip) : (selEnd c s).schedule = s.schedule := rfl

/-! ### addrEnd -/

@[simp] theorem addrEnd_cfg (c : Chip) (r : RegAddr) : (addrEnd c r s).cfg = s.cfg := rfl
@[simp] theorem addrEnd_mode (c : Chip) (r : RegAddr) : (addrEnd c r s).mode = s.mode := rfl
@[simp] theorem addrEnd_bus (c : Chip) (r : RegAddr) :
    (addrEnd c r s).bus = { s.bus with latchValid := true, latchReg := r } := rfl
@[simp] theorem addrEnd_pins (c : Chip) (r : RegAddr) : (addrEnd c r s).pins = s.pins := rfl
@[simp] theorem addrEnd_be (c : Chip) (r : RegAddr) : (addrEnd c r s).be = s.be := rfl
@[simp] theorem addrEnd_shadow (c : Chip) (r : RegAddr) : (addrEnd c r s).shadow = s.shadow := rfl
@[simp] theorem addrEnd_ts (c : Chip) (r : RegAddr) : (addrEnd c r s).ts = s.ts := rfl
@[simp] theorem addrEnd_sp (c : Chip) (r : RegAddr) : (addrEnd c r s).sp = s.sp := rfl
@[simp] theorem addrEnd_rrSlot (c : Chip) (r : RegAddr) : (addrEnd c r s).rrSlot = s.rrSlot := rfl
@[simp] theorem addrEnd_tick (c : Chip) (r : RegAddr) : (addrEnd c r s).tick = s.tick := rfl
@[simp] theorem addrEnd_rx (c : Chip) (r : RegAddr) : (addrEnd c r s).rx = s.rx := rfl
@[simp] theorem addrEnd_hold (c : Chip) (r : RegAddr) : (addrEnd c r s).hold = s.hold := rfl
@[simp] theorem addrEnd_led (c : Chip) (r : RegAddr) : (addrEnd c r s).led = s.led := rfl
@[simp] theorem addrEnd_host (c : Chip) (r : RegAddr) : (addrEnd c r s).host = s.host := rfl
@[simp] theorem addrEnd_status (c : Chip) (r : RegAddr) : (addrEnd c r s).status = s.status := rfl
@[simp] theorem addrEnd_tx (c : Chip) (r : RegAddr) : (addrEnd c r s).tx = s.tx := rfl
@[simp] theorem addrEnd_trace (c : Chip) (r : RegAddr) : (addrEnd c r s).trace = s.trace ++ [.addr c r] := rfl
@[simp] theorem addrEnd_latch (c : Chip) (r : RegAddr) : (addrEnd c r s).latch = s.latch := rfl
@[simp] theorem addrEnd_mem (c : Chip) (r : RegAddr) : (addrEnd c r s).mem = s.mem := rfl
@[simp] theorem addrEnd_schedule (c : Chip) (r : RegAddr) : (addrEnd c r s).schedule = s.schedule := rfl

/-! ### dataEnd -/

@[simp] theorem dataEnd_cfg (c : Chip) (r : RegAddr) (v : Byte) : (dataEnd c r v s).cfg = s.cfg := rfl
@[simp] theorem dataEnd_mode (c : Chip) (r : RegAddr) (v : Byte) : (dataEnd c r v s).mode = s.mode := rfl
@[simp] theorem dataEnd_bus (c : Chip) (r : RegAddr) (v : Byte) : (dataEnd c r v s).bus = s.bus := rfl
@[simp] theorem dataEnd_pins (c : Chip) (r : RegAddr) (v : Byte) : (dataEnd c r v s).pins = s.pins := rfl
@[simp] theorem dataEnd_be (c : Chip) (r : RegAddr) (v : Byte) : (dataEnd c r v s).be = s.be := rfl
@[simp] theorem dataEnd_shadow (c : Chip) (r : RegAddr) (v : Byte) :
    (dataEnd c r v s).shadow = shadowAfter c r v s.shadow := rfl
@[simp] theorem dataEnd_ts (c : Chip) (r : RegAddr) (v : Byte) : (dataEnd c r v s).ts = s.ts := rfl
@[simp] theorem dataEnd_sp (c : Chip) (r : RegAddr) (v : Byte) : (dataEnd c r v s).sp = s.sp := rfl
@[simp] theorem dataEnd_rrSlot (c : Chip) (r : RegAddr) (v : Byte) : (dataEnd c r v s).rrSlot = s.rrSlot := rfl
@[simp] theorem dataEnd_tick (c : Chip) (r : RegAddr) (v : Byte) : (dataEnd c r v s).tick = s.tick := rfl
@[simp] theorem dataEnd_rx (c : Chip) (r : RegAddr) (v : Byte) : (dataEnd c r v s).rx = s.rx := rfl
@[simp] theorem dataEnd_hold (c : Chip) (r : RegAddr) (v : Byte) : (dataEnd c r v s).hold = s.hold := rfl
@[simp] theorem dataEnd_led (c : Chip) (r : RegAddr) (v : Byte) : (dataEnd c r v s).led = s.led := rfl
@[simp] theorem dataEnd_host (c : Chip) (r : RegAddr) (v : Byte) : (dataEnd c r v s).host = s.host := rfl
@[simp] theorem dataEnd_status (c : Chip) (r : RegAddr) (v : Byte) : (dataEnd c r v s).status = s.status := rfl
@[simp] theorem dataEnd_tx (c : Chip) (r : RegAddr) (v : Byte) : (dataEnd c r v s).tx = s.tx := rfl
@[simp] theorem dataEnd_trace (c : Chip) (r : RegAddr) (v : Byte) :
    (dataEnd c r v s).trace = s.trace ++ [.data c r v] := rfl
@[simp] theorem dataEnd_latch (c : Chip) (r : RegAddr) (v : Byte) : (dataEnd c r v s).latch = s.latch := rfl
@[simp] theorem dataEnd_mem (c : Chip) (r : RegAddr) (v : Byte) : (dataEnd c r v s).mem = s.mem := rfl
@[simp] theorem dataEnd_schedule (c : Chip) (r : RegAddr) (v : Byte) : (dataEnd c r v s).schedule = s.schedule := rfl

/-! ### chipLatches -/

@[simp] theorem chipLatches_cfg (c : Chip) (r : RegAddr) : (chipLatches c r s).cfg = s.cfg := rfl
@[simp] theorem chipLatches_mode (c : Chip) (r : RegAddr) : (chipLatches c r s).mode = s.mode := rfl
@[simp] theorem chipLatches_bus (c : Chip) (r : RegAddr) : (chipLatches c r s).bus = s.bus := rfl
@[simp] theorem chipLatches_pins (c : Chip) (r : RegAddr) : (chipLatches c r s).pins = s.pins := rfl
@[simp] theorem chipLatches_be (c : Chip) (r : RegAddr) : (chipLatches c r s).be = s.be := rfl
@[simp] theorem chipLatches_shadow (c : Chip) (r : RegAddr) : (chipLatches c r s).shadow = s.shadow := rfl
@[simp] theorem chipLatches_ts (c : Chip) (r : RegAddr) : (chipLatches c r s).ts = s.ts := rfl
@[simp] theorem chipLatches_sp (c : Chip) (r : RegAddr) : (chipLatches c r s).sp = s.sp := rfl
@[simp] theorem chipLatches_rrSlot (c : Chip) (r : RegAddr) : (chipLatches c r s).rrSlot = s.rrSlot := rfl
@[simp] theorem chipLatches_tick (c : Chip) (r : RegAddr) : (chipLatches c r s).tick = s.tick := rfl
@[simp] theorem chipLatches_rx (c : Chip) (r : RegAddr) : (chipLatches c r s).rx = s.rx := rfl
@[simp] theorem chipLatches_hold (c : Chip) (r : RegAddr) : (chipLatches c r s).hold = s.hold := rfl
@[simp] theorem chipLatches_led (c : Chip) (r : RegAddr) : (chipLatches c r s).led = s.led := rfl
@[simp] theorem chipLatches_host (c : Chip) (r : RegAddr) : (chipLatches c r s).host = s.host := rfl
@[simp] theorem chipLatches_status (c : Chip) (r : RegAddr) : (chipLatches c r s).status = s.status := rfl
@[simp] theorem chipLatches_tx (c : Chip) (r : RegAddr) : (chipLatches c r s).tx = s.tx := rfl
@[simp] theorem chipLatches_trace (c : Chip) (r : RegAddr) : (chipLatches c r s).trace = s.trace := rfl
@[simp] theorem chipLatches_latch (c : Chip) (r : RegAddr) : (chipLatches c r s).latch = s.latch.set c (some r) := rfl
@[simp] theorem chipLatches_mem (c : Chip) (r : RegAddr) : (chipLatches c r s).mem = s.mem := rfl
@[simp] theorem chipLatches_schedule (c : Chip) (r : RegAddr) : (chipLatches c r s).schedule = s.schedule := rfl

/-! ### holdSel -/

@[simp] theorem holdSel_cfg (c : Chip) : (holdSel c s).cfg = s.cfg := rfl
@[simp] theorem holdSel_mode (c : Chip) : (holdSel c s).mode = s.mode := rfl
@[simp] theorem holdSel_bus (c : Chip) : (holdSel c s).bus = s.bus := rfl
@[simp] theorem holdSel_pins (c : Chip) : (holdSel c s).pins = { s.pins with selO := s.cfg.selCode c } := rfl
@[simp] theorem holdSel_be (c : Chip) : (holdSel c s).be = s.be := rfl
@[simp] theorem holdSel_shadow (c : Chip) : (holdSel c s).shadow = s.shadow := rfl
@[simp] theorem holdSel_ts (c : Chip) : (holdSel c s).ts = s.ts := rfl
@[simp] theorem holdSel_sp (c : Chip) : (holdSel c s).sp = s.sp := rfl
@[simp] theorem holdSel_rrSlot (c : Chip) : (holdSel c s).rrSlot = s.rrSlot := rfl
@[simp] theorem holdSel_tick (c : Chip) : (holdSel c s).tick = s.tick := rfl
@[simp] theorem holdSel_rx (c : Chip) : (holdSel c s).rx = s.rx := rfl
@[simp] theorem holdSel_hold (c : Chip) : (holdSel c s).hold = s.hold := rfl
@[simp] theorem holdSel_led (c : Chip) : (holdSel c s).led = s.led := rfl
@[simp] theorem holdSel_host (c : Chip) : (holdSel c s).host = s.host := rfl
@[simp] theorem holdSel_status (c : Chip) : (holdSel c s).status = s.status := rfl
@[simp] theorem holdSel_tx (c : Chip) : (holdSel c s).tx = s.tx := rfl
@[simp] theorem holdSel_trace (c : Chip) : (holdSel c s).trace = s.trace := rfl
@[simp] theorem holdSel_latch (c : Chip) : (holdSel c s).latch = s.latch := rfl
@[simp] theorem holdSel_mem (c : Chip) : (holdSel c s).mem = s.mem := rfl
@[simp] theorem holdSel_schedule (c : Chip) : (holdSel c s).schedule = s.schedule := rfl

/-! ### holdData -/

@[simp] theorem holdData_cfg (v : Byte) : (holdData v s).cfg = s.cfg := rfl
@[simp] theorem holdData_mode (v : Byte) : (holdData v s).mode = s.mode := rfl
@[simp] theorem holdData_bus (v : Byte) : (holdData v s).bus = s.bus := rfl
@[simp] theorem holdData_pins (v : Byte) : (holdData v s).pins = { s.pins with dO := v } := rfl
@[simp] theorem holdData_be (v : Byte) : (holdData v s).be = s.be := rfl
@[simp] theorem holdData_shadow (v : Byte) : (holdData v s).shadow = s.shadow := rfl
@[simp] theorem holdData_ts (v : Byte) : (holdData v s).ts = s.ts := rfl
@[simp] theorem holdData_sp (v : Byte) : (holdData v s).sp = s.sp := rfl
@[simp] theorem holdData_rrSlot (v : Byte) : (holdData v s).rrSlot = s.rrSlot := rfl
@[simp] theorem holdData_tick (v : Byte) : (holdData v s).tick = s.tick := rfl
@[simp] theorem holdData_rx (v : Byte) : (holdData v s).rx = s.rx := rfl
@[simp] theorem holdData_hold (v : Byte) : (holdData v s).hold = s.hold := rfl
@[simp] theorem holdData_led (v : Byte) : (holdData v s).led = s.led := rfl
@[simp] theorem holdData_host (v : Byte) : (holdData v s).host = s.host := rfl
@[simp] theorem holdData_status (v : Byte) : (holdData v s).status = s.status := rfl
@[simp] theorem holdData_tx (v : Byte) : (holdData v s).tx = s.tx := rfl
@[simp] theorem holdData_trace (v : Byte) : (holdData v s).trace = s.trace := rfl
@[simp] theorem holdData_latch (v : Byte) : (holdData v s).latch = s.latch := rfl
@[simp] theorem holdData_mem (v : Byte) : (holdData v s).mem = s.mem := rfl
@[simp] theorem holdData_schedule (v : Byte) : (holdData v s).schedule = s.schedule := rfl

/-! ### setFlag -/

@[simp] theorem setFlag_cfg (f : StatusFlag) : (setFlag f s).cfg = s.cfg := rfl
@[simp] theorem setFlag_mode (f : StatusFlag) : (setFlag f s).mode = s.mode := rfl
@[simp] theorem setFlag_bus (f : StatusFlag) : (setFlag f s).bus = s.bus := rfl
@[simp] theorem setFlag_pins (f : StatusFlag) : (setFlag f s).pins = s.pins := rfl
@[simp] theorem setFlag_be (f : StatusFlag) : (setFlag f s).be = s.be := rfl
@[simp] theorem setFlag_shadow (f : StatusFlag) : (setFlag f s).shadow = s.shadow := rfl
@[simp] theorem setFlag_ts (f : StatusFlag) : (setFlag f s).ts = s.ts := rfl
@[simp] theorem setFlag_sp (f : StatusFlag) : (setFlag f s).sp = s.sp := rfl
@[simp] theorem setFlag_rrSlot (f : StatusFlag) : (setFlag f s).rrSlot = s.rrSlot := rfl
@[simp] theorem setFlag_tick (f : StatusFlag) : (setFlag f s).tick = s.tick := rfl
@[simp] theorem setFlag_rx (f : StatusFlag) : (setFlag f s).rx = s.rx := rfl
@[simp] theorem setFlag_hold (f : StatusFlag) : (setFlag f s).hold = s.hold := rfl
@[simp] theorem setFlag_led (f : StatusFlag) : (setFlag f s).led = s.led := rfl
@[simp] theorem setFlag_host (f : StatusFlag) : (setFlag f s).host = s.host := rfl
@[simp] theorem setFlag_status (f : StatusFlag) : (setFlag f s).status = s.status ||| f.bit := rfl
@[simp] theorem setFlag_tx (f : StatusFlag) : (setFlag f s).tx = s.tx := rfl
@[simp] theorem setFlag_trace (f : StatusFlag) : (setFlag f s).trace = s.trace := rfl
@[simp] theorem setFlag_latch (f : StatusFlag) : (setFlag f s).latch = s.latch := rfl
@[simp] theorem setFlag_mem (f : StatusFlag) : (setFlag f s).mem = s.mem := rfl
@[simp] theorem setFlag_schedule (f : StatusFlag) : (setFlag f s).schedule = s.schedule := rfl

/-! ### clearStatus -/

@[simp] theorem clearStatus_cfg : (clearStatus s).cfg = s.cfg := rfl
@[simp] theorem clearStatus_mode : (clearStatus s).mode = s.mode := rfl
@[simp] theorem clearStatus_bus : (clearStatus s).bus = s.bus := rfl
@[simp] theorem clearStatus_pins : (clearStatus s).pins = s.pins := rfl
@[simp] theorem clearStatus_be : (clearStatus s).be = s.be := rfl
@[simp] theorem clearStatus_shadow : (clearStatus s).shadow = s.shadow := rfl
@[simp] theorem clearStatus_ts : (clearStatus s).ts = s.ts := rfl
@[simp] theorem clearStatus_sp : (clearStatus s).sp = s.sp := rfl
@[simp] theorem clearStatus_rrSlot : (clearStatus s).rrSlot = s.rrSlot := rfl
@[simp] theorem clearStatus_tick : (clearStatus s).tick = s.tick := rfl
@[simp] theorem clearStatus_rx : (clearStatus s).rx = s.rx := rfl
@[simp] theorem clearStatus_hold : (clearStatus s).hold = s.hold := rfl
@[simp] theorem clearStatus_led : (clearStatus s).led = s.led := rfl
@[simp] theorem clearStatus_host : (clearStatus s).host = s.host := rfl
@[simp] theorem clearStatus_status : (clearStatus s).status = 0 := rfl
@[simp] theorem clearStatus_tx : (clearStatus s).tx = s.tx := rfl
@[simp] theorem clearStatus_trace : (clearStatus s).trace = s.trace := rfl
@[simp] theorem clearStatus_latch : (clearStatus s).latch = s.latch := rfl
@[simp] theorem clearStatus_mem : (clearStatus s).mem = s.mem := rfl
@[simp] theorem clearStatus_schedule : (clearStatus s).schedule = s.schedule := rfl

/-! ### raiseDiscard -/

@[simp] theorem raiseDiscard_cfg (f : StatusFlag) : (raiseDiscard f s).cfg = s.cfg := rfl
@[simp] theorem raiseDiscard_mode (f : StatusFlag) : (raiseDiscard f s).mode = s.mode := rfl
@[simp] theorem raiseDiscard_bus (f : StatusFlag) : (raiseDiscard f s).bus = s.bus := rfl
@[simp] theorem raiseDiscard_pins (f : StatusFlag) : (raiseDiscard f s).pins = s.pins := rfl
@[simp] theorem raiseDiscard_be (f : StatusFlag) : (raiseDiscard f s).be = s.be := rfl
@[simp] theorem raiseDiscard_shadow (f : StatusFlag) : (raiseDiscard f s).shadow = s.shadow := rfl
@[simp] theorem raiseDiscard_ts (f : StatusFlag) : (raiseDiscard f s).ts = s.ts := rfl
@[simp] theorem raiseDiscard_sp (f : StatusFlag) : (raiseDiscard f s).sp = s.sp := rfl
@[simp] theorem raiseDiscard_rrSlot (f : StatusFlag) : (raiseDiscard f s).rrSlot = s.rrSlot := rfl
@[simp] theorem raiseDiscard_tick (f : StatusFlag) : (raiseDiscard f s).tick = s.tick := rfl
@[simp] theorem raiseDiscard_rx (f : StatusFlag) : (raiseDiscard f s).rx = s.rx := rfl
@[simp] theorem raiseDiscard_hold (f : StatusFlag) : (raiseDiscard f s).hold = s.hold := rfl
@[simp] theorem raiseDiscard_led (f : StatusFlag) : (raiseDiscard f s).led = s.led := rfl
@[simp] theorem raiseDiscard_host (f : StatusFlag) : (raiseDiscard f s).host = s.host := rfl
@[simp] theorem raiseDiscard_status (f : StatusFlag) : (raiseDiscard f s).status = s.status ||| f.bit := rfl
@[simp] theorem raiseDiscard_tx (f : StatusFlag) : (raiseDiscard f s).tx = s.tx := rfl
@[simp] theorem raiseDiscard_trace (f : StatusFlag) : (raiseDiscard f s).trace = s.trace := rfl
@[simp] theorem raiseDiscard_latch (f : StatusFlag) : (raiseDiscard f s).latch = s.latch := rfl
@[simp] theorem raiseDiscard_mem (f : StatusFlag) : (raiseDiscard f s).mem = s.mem := rfl
@[simp] theorem raiseDiscard_schedule (f : StatusFlag) : (raiseDiscard f s).schedule = s.schedule := rfl

/-! ### completeHost -/

@[simp] theorem completeHost_cfg (e : HostErr) (b : Byte) : (completeHost e b s).cfg = s.cfg := rfl
@[simp] theorem completeHost_mode (e : HostErr) (b : Byte) : (completeHost e b s).mode = s.mode := rfl
@[simp] theorem completeHost_bus (e : HostErr) (b : Byte) : (completeHost e b s).bus = s.bus := rfl
@[simp] theorem completeHost_pins (e : HostErr) (b : Byte) : (completeHost e b s).pins = s.pins := rfl
@[simp] theorem completeHost_be (e : HostErr) (b : Byte) : (completeHost e b s).be = s.be := rfl
@[simp] theorem completeHost_shadow (e : HostErr) (b : Byte) : (completeHost e b s).shadow = s.shadow := rfl
@[simp] theorem completeHost_ts (e : HostErr) (b : Byte) : (completeHost e b s).ts = s.ts := rfl
@[simp] theorem completeHost_sp (e : HostErr) (b : Byte) : (completeHost e b s).sp = s.sp := rfl
@[simp] theorem completeHost_rrSlot (e : HostErr) (b : Byte) : (completeHost e b s).rrSlot = s.rrSlot := rfl
@[simp] theorem completeHost_tick (e : HostErr) (b : Byte) : (completeHost e b s).tick = s.tick := rfl
@[simp] theorem completeHost_rx (e : HostErr) (b : Byte) : (completeHost e b s).rx = s.rx := rfl
@[simp] theorem completeHost_hold (e : HostErr) (b : Byte) : (completeHost e b s).hold = s.hold := rfl
@[simp] theorem completeHost_led (e : HostErr) (b : Byte) : (completeHost e b s).led = s.led := rfl
@[simp] theorem completeHost_host (e : HostErr) (b : Byte) :
    (completeHost e b s).host = { s.host with hostPending := false, hDoneO := true, hRdataO := b, hErrO := e.code } := rfl
@[simp] theorem completeHost_status (e : HostErr) (b : Byte) : (completeHost e b s).status = s.status := rfl
@[simp] theorem completeHost_tx (e : HostErr) (b : Byte) : (completeHost e b s).tx = s.tx := rfl
@[simp] theorem completeHost_trace (e : HostErr) (b : Byte) : (completeHost e b s).trace = s.trace := rfl
@[simp] theorem completeHost_latch (e : HostErr) (b : Byte) : (completeHost e b s).latch = s.latch := rfl
@[simp] theorem completeHost_mem (e : HostErr) (b : Byte) : (completeHost e b s).mem = s.mem := rfl
@[simp] theorem completeHost_schedule (e : HostErr) (b : Byte) : (completeHost e b s).schedule = s.schedule := rfl

/-! ### clearDone -/

@[simp] theorem clearDone_cfg : (clearDone s).cfg = s.cfg := rfl
@[simp] theorem clearDone_mode : (clearDone s).mode = s.mode := rfl
@[simp] theorem clearDone_bus : (clearDone s).bus = s.bus := rfl
@[simp] theorem clearDone_pins : (clearDone s).pins = s.pins := rfl
@[simp] theorem clearDone_be : (clearDone s).be = s.be := rfl
@[simp] theorem clearDone_shadow : (clearDone s).shadow = s.shadow := rfl
@[simp] theorem clearDone_ts : (clearDone s).ts = s.ts := rfl
@[simp] theorem clearDone_sp : (clearDone s).sp = s.sp := rfl
@[simp] theorem clearDone_rrSlot : (clearDone s).rrSlot = s.rrSlot := rfl
@[simp] theorem clearDone_tick : (clearDone s).tick = s.tick := rfl
@[simp] theorem clearDone_rx : (clearDone s).rx = s.rx := rfl
@[simp] theorem clearDone_hold : (clearDone s).hold = s.hold := rfl
@[simp] theorem clearDone_led : (clearDone s).led = s.led := rfl
@[simp] theorem clearDone_host : (clearDone s).host = { s.host with hDoneO := false } := rfl
@[simp] theorem clearDone_status : (clearDone s).status = s.status := rfl
@[simp] theorem clearDone_tx : (clearDone s).tx = s.tx := rfl
@[simp] theorem clearDone_trace : (clearDone s).trace = s.trace := rfl
@[simp] theorem clearDone_latch : (clearDone s).latch = s.latch := rfl
@[simp] theorem clearDone_mem : (clearDone s).mem = s.mem := rfl
@[simp] theorem clearDone_schedule : (clearDone s).schedule = s.schedule := rfl

/-! ### takeBus -/

@[simp] theorem takeBus_cfg (x : Owner) (js : List JobReq) : (takeBus x js s).cfg = s.cfg := rfl
@[simp] theorem takeBus_mode (x : Owner) (js : List JobReq) : (takeBus x js s).mode = s.mode := rfl
@[simp] theorem takeBus_bus (x : Owner) (js : List JobReq) : (takeBus x js s).bus = s.bus := rfl
@[simp] theorem takeBus_pins (x : Owner) (js : List JobReq) : (takeBus x js s).pins = s.pins := rfl
@[simp] theorem takeBus_be (x : Owner) (js : List JobReq) : (takeBus x js s).be = s.be := rfl
@[simp] theorem takeBus_shadow (x : Owner) (js : List JobReq) : (takeBus x js s).shadow = s.shadow := rfl
@[simp] theorem takeBus_ts (x : Owner) (js : List JobReq) : (takeBus x js s).ts = s.ts := rfl
@[simp] theorem takeBus_sp (x : Owner) (js : List JobReq) : (takeBus x js s).sp = s.sp := rfl
@[simp] theorem takeBus_rrSlot (x : Owner) (js : List JobReq) : (takeBus x js s).rrSlot = s.rrSlot := rfl
@[simp] theorem takeBus_tick (x : Owner) (js : List JobReq) : (takeBus x js s).tick = s.tick := rfl
@[simp] theorem takeBus_rx (x : Owner) (js : List JobReq) : (takeBus x js s).rx = s.rx := rfl
@[simp] theorem takeBus_hold (x : Owner) (js : List JobReq) : (takeBus x js s).hold = s.hold := rfl
@[simp] theorem takeBus_led (x : Owner) (js : List JobReq) : (takeBus x js s).led = s.led := rfl
@[simp] theorem takeBus_host (x : Owner) (js : List JobReq) : (takeBus x js s).host = s.host := rfl
@[simp] theorem takeBus_status (x : Owner) (js : List JobReq) : (takeBus x js s).status = s.status := rfl
@[simp] theorem takeBus_tx (x : Owner) (js : List JobReq) :
    (takeBus x js s).tx = ⟨x, if js.isEmpty then .final else .jobs, js, 0⟩ := rfl
@[simp] theorem takeBus_trace (x : Owner) (js : List JobReq) : (takeBus x js s).trace = s.trace := rfl
@[simp] theorem takeBus_latch (x : Owner) (js : List JobReq) : (takeBus x js s).latch = s.latch := rfl
@[simp] theorem takeBus_mem (x : Owner) (js : List JobReq) : (takeBus x js s).mem = s.mem := rfl
@[simp] theorem takeBus_schedule (x : Owner) (js : List JobReq) : (takeBus x js s).schedule = s.schedule := rfl

/-! ### releaseBus -/

@[simp] theorem releaseBus_cfg : (releaseBus s).cfg = s.cfg := rfl
@[simp] theorem releaseBus_mode : (releaseBus s).mode = s.mode := rfl
@[simp] theorem releaseBus_bus : (releaseBus s).bus = s.bus := rfl
@[simp] theorem releaseBus_pins : (releaseBus s).pins = s.pins := rfl
@[simp] theorem releaseBus_be : (releaseBus s).be = s.be := rfl
@[simp] theorem releaseBus_shadow : (releaseBus s).shadow = s.shadow := rfl
@[simp] theorem releaseBus_ts : (releaseBus s).ts = s.ts := rfl
@[simp] theorem releaseBus_sp : (releaseBus s).sp = s.sp := rfl
@[simp] theorem releaseBus_rrSlot : (releaseBus s).rrSlot = s.rrSlot := rfl
@[simp] theorem releaseBus_tick : (releaseBus s).tick = s.tick := rfl
@[simp] theorem releaseBus_rx : (releaseBus s).rx = s.rx := rfl
@[simp] theorem releaseBus_hold : (releaseBus s).hold = s.hold := rfl
@[simp] theorem releaseBus_led : (releaseBus s).led = s.led := rfl
@[simp] theorem releaseBus_host : (releaseBus s).host = s.host := rfl
@[simp] theorem releaseBus_status : (releaseBus s).status = s.status := rfl
@[simp] theorem releaseBus_tx : (releaseBus s).tx = { s.tx with owner := .nobody, txPhase := .grant } := rfl
@[simp] theorem releaseBus_trace : (releaseBus s).trace = s.trace := rfl
@[simp] theorem releaseBus_latch : (releaseBus s).latch = s.latch := rfl
@[simp] theorem releaseBus_mem : (releaseBus s).mem = s.mem := rfl
@[simp] theorem releaseBus_schedule : (releaseBus s).schedule = s.schedule := rfl

/-! ### closeTx -/

@[simp] theorem closeTx_cfg (js : List JobReq) : (closeTx js s).cfg = s.cfg := rfl
@[simp] theorem closeTx_mode (js : List JobReq) : (closeTx js s).mode = s.mode := rfl
@[simp] theorem closeTx_bus (js : List JobReq) : (closeTx js s).bus = s.bus := rfl
@[simp] theorem closeTx_pins (js : List JobReq) : (closeTx js s).pins = s.pins := rfl
@[simp] theorem closeTx_be (js : List JobReq) : (closeTx js s).be = s.be := rfl
@[simp] theorem closeTx_shadow (js : List JobReq) : (closeTx js s).shadow = s.shadow := rfl
@[simp] theorem closeTx_ts (js : List JobReq) : (closeTx js s).ts = s.ts := rfl
@[simp] theorem closeTx_sp (js : List JobReq) : (closeTx js s).sp = s.sp := rfl
@[simp] theorem closeTx_rrSlot (js : List JobReq) : (closeTx js s).rrSlot = s.rrSlot := rfl
@[simp] theorem closeTx_tick (js : List JobReq) : (closeTx js s).tick = s.tick := rfl
@[simp] theorem closeTx_rx (js : List JobReq) : (closeTx js s).rx = s.rx := rfl
@[simp] theorem closeTx_hold (js : List JobReq) : (closeTx js s).hold = s.hold := rfl
@[simp] theorem closeTx_led (js : List JobReq) : (closeTx js s).led = s.led := rfl
@[simp] theorem closeTx_host (js : List JobReq) : (closeTx js s).host = s.host := rfl
@[simp] theorem closeTx_status (js : List JobReq) : (closeTx js s).status = s.status := rfl
@[simp] theorem closeTx_tx (js : List JobReq) : (closeTx js s).tx = ⟨.nobody, .grant, js, js.length⟩ := rfl
@[simp] theorem closeTx_trace (js : List JobReq) : (closeTx js s).trace = s.trace := rfl
@[simp] theorem closeTx_latch (js : List JobReq) : (closeTx js s).latch = s.latch := rfl
@[simp] theorem closeTx_mem (js : List JobReq) : (closeTx js s).mem = s.mem := rfl
@[simp] theorem closeTx_schedule (js : List JobReq) : (closeTx js s).schedule = s.schedule := rfl

/-! ### takeTick -/

@[simp] theorem takeTick_cfg : (takeTick s).cfg = s.cfg := rfl
@[simp] theorem takeTick_mode : (takeTick s).mode = s.mode := rfl
@[simp] theorem takeTick_bus : (takeTick s).bus = s.bus := rfl
@[simp] theorem takeTick_pins : (takeTick s).pins = s.pins := rfl
@[simp] theorem takeTick_be : (takeTick s).be = s.be := rfl
@[simp] theorem takeTick_shadow : (takeTick s).shadow = s.shadow := rfl
@[simp] theorem takeTick_ts : (takeTick s).ts = s.ts := rfl
@[simp] theorem takeTick_sp : (takeTick s).sp = s.sp := rfl
@[simp] theorem takeTick_rrSlot : (takeTick s).rrSlot = s.rrSlot := rfl
@[simp] theorem takeTick_tick : (takeTick s).tick = { s.tick with tickPending := false } := rfl
@[simp] theorem takeTick_rx : (takeTick s).rx = s.rx := rfl
@[simp] theorem takeTick_hold : (takeTick s).hold = s.hold := rfl
@[simp] theorem takeTick_led : (takeTick s).led = s.led := rfl
@[simp] theorem takeTick_host : (takeTick s).host = s.host := rfl
@[simp] theorem takeTick_status : (takeTick s).status = s.status := rfl
@[simp] theorem takeTick_tx : (takeTick s).tx = s.tx := rfl
@[simp] theorem takeTick_trace : (takeTick s).trace = s.trace := rfl
@[simp] theorem takeTick_latch : (takeTick s).latch = s.latch := rfl
@[simp] theorem takeTick_mem : (takeTick s).mem = s.mem := rfl
@[simp] theorem takeTick_schedule : (takeTick s).schedule = s.schedule := rfl

/-! ### toggleLed -/

@[simp] theorem toggleLed_cfg (c : Chip) : (toggleLed c s).cfg = s.cfg := rfl
@[simp] theorem toggleLed_mode (c : Chip) : (toggleLed c s).mode = s.mode := rfl
@[simp] theorem toggleLed_bus (c : Chip) : (toggleLed c s).bus = s.bus := rfl
@[simp] theorem toggleLed_pins (c : Chip) : (toggleLed c s).pins = s.pins := rfl
@[simp] theorem toggleLed_be (c : Chip) : (toggleLed c s).be = s.be := rfl
@[simp] theorem toggleLed_shadow (c : Chip) : (toggleLed c s).shadow = s.shadow := rfl
@[simp] theorem toggleLed_ts (c : Chip) : (toggleLed c s).ts = s.ts := rfl
@[simp] theorem toggleLed_sp (c : Chip) : (toggleLed c s).sp = s.sp := rfl
@[simp] theorem toggleLed_rrSlot (c : Chip) : (toggleLed c s).rrSlot = s.rrSlot := rfl
@[simp] theorem toggleLed_tick (c : Chip) : (toggleLed c s).tick = s.tick := rfl
@[simp] theorem toggleLed_rx (c : Chip) : (toggleLed c s).rx = s.rx := rfl
@[simp] theorem toggleLed_hold (c : Chip) : (toggleLed c s).hold = s.hold := rfl
@[simp] theorem toggleLed_led (c : Chip) : (toggleLed c s).led = s.led.set c (!s.led.get c) := rfl
@[simp] theorem toggleLed_host (c : Chip) : (toggleLed c s).host = s.host := rfl
@[simp] theorem toggleLed_status (c : Chip) : (toggleLed c s).status = s.status := rfl
@[simp] theorem toggleLed_tx (c : Chip) : (toggleLed c s).tx = s.tx := rfl
@[simp] theorem toggleLed_trace (c : Chip) : (toggleLed c s).trace = s.trace := rfl
@[simp] theorem toggleLed_latch (c : Chip) : (toggleLed c s).latch = s.latch := rfl
@[simp] theorem toggleLed_mem (c : Chip) : (toggleLed c s).mem = s.mem := rfl
@[simp] theorem toggleLed_schedule (c : Chip) : (toggleLed c s).schedule = s.schedule := rfl

/-! ### releaseHold -/

@[simp] theorem releaseHold_cfg : (releaseHold s).cfg = s.cfg := rfl
@[simp] theorem releaseHold_mode : (releaseHold s).mode = s.mode := rfl
@[simp] theorem releaseHold_bus : (releaseHold s).bus = s.bus := rfl
@[simp] theorem releaseHold_pins : (releaseHold s).pins = s.pins := rfl
@[simp] theorem releaseHold_be : (releaseHold s).be = s.be := rfl
@[simp] theorem releaseHold_shadow : (releaseHold s).shadow = s.shadow := rfl
@[simp] theorem releaseHold_ts : (releaseHold s).ts = s.ts := rfl
@[simp] theorem releaseHold_sp : (releaseHold s).sp = s.sp := rfl
@[simp] theorem releaseHold_rrSlot : (releaseHold s).rrSlot = s.rrSlot := rfl
@[simp] theorem releaseHold_tick : (releaseHold s).tick = s.tick := rfl
@[simp] theorem releaseHold_rx : (releaseHold s).rx = s.rx := rfl
@[simp] theorem releaseHold_hold : (releaseHold s).hold = { s.hold with holdFull := false } := rfl
@[simp] theorem releaseHold_led : (releaseHold s).led = s.led := rfl
@[simp] theorem releaseHold_host : (releaseHold s).host = s.host := rfl
@[simp] theorem releaseHold_status : (releaseHold s).status = s.status := rfl
@[simp] theorem releaseHold_tx : (releaseHold s).tx = s.tx := rfl
@[simp] theorem releaseHold_trace : (releaseHold s).trace = s.trace := rfl
@[simp] theorem releaseHold_latch : (releaseHold s).latch = s.latch := rfl
@[simp] theorem releaseHold_mem : (releaseHold s).mem = s.mem := rfl
@[simp] theorem releaseHold_schedule : (releaseHold s).schedule = s.schedule := rfl

/-! ### slot1Apply -/

@[simp] theorem slot1Apply_cfg (c : Chip) (voice : BitVec 2) (p : BitVec 3) (n : Byte) :
    (slot1Apply c voice p n s).cfg = s.cfg := rfl
@[simp] theorem slot1Apply_mode (c : Chip) (voice : BitVec 2) (p : BitVec 3) (n : Byte) :
    (slot1Apply c voice p n s).mode = s.mode := rfl
@[simp] theorem slot1Apply_bus (c : Chip) (voice : BitVec 2) (p : BitVec 3) (n : Byte) :
    (slot1Apply c voice p n s).bus = s.bus := rfl
@[simp] theorem slot1Apply_pins (c : Chip) (voice : BitVec 2) (p : BitVec 3) (n : Byte) :
    (slot1Apply c voice p n s).pins = s.pins := rfl
@[simp] theorem slot1Apply_be (c : Chip) (voice : BitVec 2) (p : BitVec 3) (n : Byte) :
    (slot1Apply c voice p n s).be = s.be := rfl
@[simp] theorem slot1Apply_shadow (c : Chip) (voice : BitVec 2) (p : BitVec 3) (n : Byte) :
    (slot1Apply c voice p n s).shadow = s.shadow := rfl
@[simp] theorem slot1Apply_ts (c : Chip) (voice : BitVec 2) (p : BitVec 3) (n : Byte) :
    (slot1Apply c voice p n s).ts = s.ts.set c (slot1Chip s.cfg.tsPolicy voice (ticksOf s.cfg p n) (levelOf n) (s.ts.get c)) := rfl
@[simp] theorem slot1Apply_sp (c : Chip) (voice : BitVec 2) (p : BitVec 3) (n : Byte) :
    (slot1Apply c voice p n s).sp = s.sp := rfl
@[simp] theorem slot1Apply_rrSlot (c : Chip) (voice : BitVec 2) (p : BitVec 3) (n : Byte) :
    (slot1Apply c voice p n s).rrSlot = s.rrSlot := rfl
@[simp] theorem slot1Apply_tick (c : Chip) (voice : BitVec 2) (p : BitVec 3) (n : Byte) :
    (slot1Apply c voice p n s).tick = s.tick := rfl
@[simp] theorem slot1Apply_rx (c : Chip) (voice : BitVec 2) (p : BitVec 3) (n : Byte) :
    (slot1Apply c voice p n s).rx = s.rx := rfl
@[simp] theorem slot1Apply_hold (c : Chip) (voice : BitVec 2) (p : BitVec 3) (n : Byte) :
    (slot1Apply c voice p n s).hold = s.hold := rfl
@[simp] theorem slot1Apply_led (c : Chip) (voice : BitVec 2) (p : BitVec 3) (n : Byte) :
    (slot1Apply c voice p n s).led = s.led := rfl
@[simp] theorem slot1Apply_host (c : Chip) (voice : BitVec 2) (p : BitVec 3) (n : Byte) :
    (slot1Apply c voice p n s).host = s.host := rfl
@[simp] theorem slot1Apply_status (c : Chip) (voice : BitVec 2) (p : BitVec 3) (n : Byte) :
    (slot1Apply c voice p n s).status = s.status := rfl
@[simp] theorem slot1Apply_tx (c : Chip) (voice : BitVec 2) (p : BitVec 3) (n : Byte) :
    (slot1Apply c voice p n s).tx = s.tx := rfl
@[simp] theorem slot1Apply_trace (c : Chip) (voice : BitVec 2) (p : BitVec 3) (n : Byte) :
    (slot1Apply c voice p n s).trace = s.trace := rfl
@[simp] theorem slot1Apply_latch (c : Chip) (voice : BitVec 2) (p : BitVec 3) (n : Byte) :
    (slot1Apply c voice p n s).latch = s.latch := rfl
@[simp] theorem slot1Apply_mem (c : Chip) (voice : BitVec 2) (p : BitVec 3) (n : Byte) :
    (slot1Apply c voice p n s).mem = s.mem := rfl
@[simp] theorem slot1Apply_schedule (c : Chip) (voice : BitVec 2) (p : BitVec 3) (n : Byte) :
    (slot1Apply c voice p n s).schedule = s.schedule := rfl

/-! ### advance -/

@[simp] theorem advance_cfg : (advance s).cfg = s.cfg := rfl
@[simp] theorem advance_mode : (advance s).mode = s.mode := rfl
@[simp] theorem advance_bus : (advance s).bus = s.bus := rfl
@[simp] theorem advance_pins : (advance s).pins = s.pins := rfl
@[simp] theorem advance_be : (advance s).be = s.be := rfl
@[simp] theorem advance_shadow : (advance s).shadow = s.shadow := rfl
@[simp] theorem advance_ts : (advance s).ts = s.ts.map (fun t => t.map TimerSynth.advance) := rfl
@[simp] theorem advance_sp : (advance s).sp = s.sp.map (fun p => p.map (SamplePlay.advance s.cfg)) := rfl
@[simp] theorem advance_rrSlot : (advance s).rrSlot = rrNext s.mode s.rrSlot := rfl
@[simp] theorem advance_tick : (advance s).tick = s.tick := rfl
@[simp] theorem advance_rx : (advance s).rx = s.rx := rfl
@[simp] theorem advance_hold : (advance s).hold = s.hold := rfl
@[simp] theorem advance_led : (advance s).led = s.led := rfl
@[simp] theorem advance_host : (advance s).host = s.host := rfl
@[simp] theorem advance_status : (advance s).status = s.status := rfl
@[simp] theorem advance_tx : (advance s).tx = s.tx := rfl
@[simp] theorem advance_trace : (advance s).trace = s.trace := rfl
@[simp] theorem advance_latch : (advance s).latch = s.latch := rfl
@[simp] theorem advance_mem : (advance s).mem = s.mem := rfl
@[simp] theorem advance_schedule : (advance s).schedule = s.schedule := rfl

/-! ### drivePins -/

@[simp] theorem drivePins_cfg : (drivePins s).cfg = s.cfg := rfl
@[simp] theorem drivePins_mode : (drivePins s).mode = s.mode := rfl
@[simp] theorem drivePins_bus : (drivePins s).bus = s.bus := rfl
@[simp] theorem drivePins_pins : (drivePins s).pins = pinsOf s.cfg s.be s.pins := rfl
@[simp] theorem drivePins_be : (drivePins s).be = s.be := rfl
@[simp] theorem drivePins_shadow : (drivePins s).shadow = s.shadow := rfl
@[simp] theorem drivePins_ts : (drivePins s).ts = s.ts := rfl
@[simp] theorem drivePins_sp : (drivePins s).sp = s.sp := rfl
@[simp] theorem drivePins_rrSlot : (drivePins s).rrSlot = s.rrSlot := rfl
@[simp] theorem drivePins_tick : (drivePins s).tick = s.tick := rfl
@[simp] theorem drivePins_rx : (drivePins s).rx = s.rx := rfl
@[simp] theorem drivePins_hold : (drivePins s).hold = s.hold := rfl
@[simp] theorem drivePins_led : (drivePins s).led = s.led := rfl
@[simp] theorem drivePins_host : (drivePins s).host = s.host := rfl
@[simp] theorem drivePins_status : (drivePins s).status = s.status := rfl
@[simp] theorem drivePins_tx : (drivePins s).tx = s.tx := rfl
@[simp] theorem drivePins_trace : (drivePins s).trace = s.trace := rfl
@[simp] theorem drivePins_latch : (drivePins s).latch = s.latch := rfl
@[simp] theorem drivePins_mem : (drivePins s).mem = s.mem := rfl
@[simp] theorem drivePins_schedule : (drivePins s).schedule = s.schedule := rfl

/-! ### enterPhase -/

@[simp] theorem enterPhase_cfg (p : BePhase) : (enterPhase p s).cfg = s.cfg := rfl
@[simp] theorem enterPhase_mode (p : BePhase) : (enterPhase p s).mode = s.mode := rfl
@[simp] theorem enterPhase_bus (p : BePhase) : (enterPhase p s).bus = s.bus := rfl
@[simp] theorem enterPhase_pins (p : BePhase) : (enterPhase p s).pins = s.pins := rfl
@[simp] theorem enterPhase_be (p : BePhase) :
    (enterPhase p s).be = { s.be with beState := p, beCnt := phaseLength s.cfg p } := rfl
@[simp] theorem enterPhase_shadow (p : BePhase) : (enterPhase p s).shadow = s.shadow := rfl
@[simp] theorem enterPhase_ts (p : BePhase) : (enterPhase p s).ts = s.ts := rfl
@[simp] theorem enterPhase_sp (p : BePhase) : (enterPhase p s).sp = s.sp := rfl
@[simp] theorem enterPhase_rrSlot (p : BePhase) : (enterPhase p s).rrSlot = s.rrSlot := rfl
@[simp] theorem enterPhase_tick (p : BePhase) : (enterPhase p s).tick = s.tick := rfl
@[simp] theorem enterPhase_rx (p : BePhase) : (enterPhase p s).rx = s.rx := rfl
@[simp] theorem enterPhase_hold (p : BePhase) : (enterPhase p s).hold = s.hold := rfl
@[simp] theorem enterPhase_led (p : BePhase) : (enterPhase p s).led = s.led := rfl
@[simp] theorem enterPhase_host (p : BePhase) : (enterPhase p s).host = s.host := rfl
@[simp] theorem enterPhase_status (p : BePhase) : (enterPhase p s).status = s.status := rfl
@[simp] theorem enterPhase_tx (p : BePhase) : (enterPhase p s).tx = s.tx := rfl
@[simp] theorem enterPhase_trace (p : BePhase) : (enterPhase p s).trace = s.trace := rfl
@[simp] theorem enterPhase_latch (p : BePhase) : (enterPhase p s).latch = s.latch := rfl
@[simp] theorem enterPhase_mem (p : BePhase) : (enterPhase p s).mem = s.mem := rfl
@[simp] theorem enterPhase_schedule (p : BePhase) : (enterPhase p s).schedule = s.schedule := rfl

/-! ### chipStores -/

@[simp] theorem chipStores_cfg (c : Chip) (v : Byte) : (chipStores c v s).cfg = s.cfg := by
  unfold chipStores; split <;> rfl
@[simp] theorem chipStores_mode (c : Chip) (v : Byte) : (chipStores c v s).mode = s.mode := by
  unfold chipStores; split <;> rfl
@[simp] theorem chipStores_bus (c : Chip) (v : Byte) : (chipStores c v s).bus = s.bus := by
  unfold chipStores; split <;> rfl
@[simp] theorem chipStores_pins (c : Chip) (v : Byte) : (chipStores c v s).pins = s.pins := by
  unfold chipStores; split <;> rfl
@[simp] theorem chipStores_be (c : Chip) (v : Byte) : (chipStores c v s).be = s.be := by
  unfold chipStores; split <;> rfl
@[simp] theorem chipStores_shadow (c : Chip) (v : Byte) : (chipStores c v s).shadow = s.shadow := by
  unfold chipStores; split <;> rfl
@[simp] theorem chipStores_ts (c : Chip) (v : Byte) : (chipStores c v s).ts = s.ts := by
  unfold chipStores; split <;> rfl
@[simp] theorem chipStores_sp (c : Chip) (v : Byte) : (chipStores c v s).sp = s.sp := by
  unfold chipStores; split <;> rfl
@[simp] theorem chipStores_rrSlot (c : Chip) (v : Byte) : (chipStores c v s).rrSlot = s.rrSlot := by
  unfold chipStores; split <;> rfl
@[simp] theorem chipStores_tick (c : Chip) (v : Byte) : (chipStores c v s).tick = s.tick := by
  unfold chipStores; split <;> rfl
@[simp] theorem chipStores_rx (c : Chip) (v : Byte) : (chipStores c v s).rx = s.rx := by
  unfold chipStores; split <;> rfl
@[simp] theorem chipStores_hold (c : Chip) (v : Byte) : (chipStores c v s).hold = s.hold := by
  unfold chipStores; split <;> rfl
@[simp] theorem chipStores_led (c : Chip) (v : Byte) : (chipStores c v s).led = s.led := by
  unfold chipStores; split <;> rfl
@[simp] theorem chipStores_host (c : Chip) (v : Byte) : (chipStores c v s).host = s.host := by
  unfold chipStores; split <;> rfl
@[simp] theorem chipStores_status (c : Chip) (v : Byte) : (chipStores c v s).status = s.status := by
  unfold chipStores; split <;> rfl
@[simp] theorem chipStores_tx (c : Chip) (v : Byte) : (chipStores c v s).tx = s.tx := by
  unfold chipStores; split <;> rfl
@[simp] theorem chipStores_trace (c : Chip) (v : Byte) : (chipStores c v s).trace = s.trace := by
  unfold chipStores; split <;> rfl
@[simp] theorem chipStores_latch (c : Chip) (v : Byte) : (chipStores c v s).latch = s.latch := by
  unfold chipStores; split <;> rfl
@[simp] theorem chipStores_schedule (c : Chip) (v : Byte) : (chipStores c v s).schedule = s.schedule := by
  unfold chipStores; split <;> rfl

/-! ### slot2Apply -/

@[simp] theorem slot2Apply_cfg (c : Chip) (voice : BitVec 2) (p : BitVec 3) (n : Byte) (id : BitVec 5) : (slot2Apply c voice p n id s).cfg = s.cfg := by
  unfold slot2Apply; split <;> rfl
@[simp] theorem slot2Apply_mode (c : Chip) (voice : BitVec 2) (p : BitVec 3) (n : Byte) (id : BitVec 5) : (slot2Apply c voice p n id s).mode = s.mode := by
  unfold slot2Apply; split <;> rfl
@[simp] theorem slot2Apply_bus (c : Chip) (voice : BitVec 2) (p : BitVec 3) (n : Byte) (id : BitVec 5) : (slot2Apply c voice p n id s).bus = s.bus := by
  unfold slot2Apply; split <;> rfl
@[simp] theorem slot2Apply_pins (c : Chip) (voice : BitVec 2) (p : BitVec 3) (n : Byte) (id : BitVec 5) : (slot2Apply c voice p n id s).pins = s.pins := by
  unfold slot2Apply; split <;> rfl
@[simp] theorem slot2Apply_be (c : Chip) (voice : BitVec 2) (p : BitVec 3) (n : Byte) (id : BitVec 5) : (slot2Apply c voice p n id s).be = s.be := by
  unfold slot2Apply; split <;> rfl
@[simp] theorem slot2Apply_shadow (c : Chip) (voice : BitVec 2) (p : BitVec 3) (n : Byte) (id : BitVec 5) : (slot2Apply c voice p n id s).shadow = s.shadow := by
  unfold slot2Apply; split <;> rfl
@[simp] theorem slot2Apply_ts (c : Chip) (voice : BitVec 2) (p : BitVec 3) (n : Byte) (id : BitVec 5) : (slot2Apply c voice p n id s).ts = s.ts := by
  unfold slot2Apply; split <;> rfl
@[simp] theorem slot2Apply_rrSlot (c : Chip) (voice : BitVec 2) (p : BitVec 3) (n : Byte) (id : BitVec 5) : (slot2Apply c voice p n id s).rrSlot = s.rrSlot := by
  unfold slot2Apply; split <;> rfl
@[simp] theorem slot2Apply_tick (c : Chip) (voice : BitVec 2) (p : BitVec 3) (n : Byte) (id : BitVec 5) : (slot2Apply c voice p n id s).tick = s.tick := by
  unfold slot2Apply; split <;> rfl
@[simp] theorem slot2Apply_rx (c : Chip) (voice : BitVec 2) (p : BitVec 3) (n : Byte) (id : BitVec 5) : (slot2Apply c voice p n id s).rx = s.rx := by
  unfold slot2Apply; split <;> rfl
@[simp] theorem slot2Apply_hold (c : Chip) (voice : BitVec 2) (p : BitVec 3) (n : Byte) (id : BitVec 5) : (slot2Apply c voice p n id s).hold = s.hold := by
  unfold slot2Apply; split <;> rfl
@[simp] theorem slot2Apply_led (c : Chip) (voice : BitVec 2) (p : BitVec 3) (n : Byte) (id : BitVec 5) : (slot2Apply c voice p n id s).led = s.led := by
  unfold slot2Apply; split <;> rfl
@[simp] theorem slot2Apply_host (c : Chip) (voice : BitVec 2) (p : BitVec 3) (n : Byte) (id : BitVec 5) : (slot2Apply c voice p n id s).host = s.host := by
  unfold slot2Apply; split <;> rfl
@[simp] theorem slot2Apply_status (c : Chip) (voice : BitVec 2) (p : BitVec 3) (n : Byte) (id : BitVec 5) : (slot2Apply c voice p n id s).status = s.status := by
  unfold slot2Apply; split <;> rfl
@[simp] theorem slot2Apply_tx (c : Chip) (voice : BitVec 2) (p : BitVec 3) (n : Byte) (id : BitVec 5) : (slot2Apply c voice p n id s).tx = s.tx := by
  unfold slot2Apply; split <;> rfl
@[simp] theorem slot2Apply_trace (c : Chip) (voice : BitVec 2) (p : BitVec 3) (n : Byte) (id : BitVec 5) : (slot2Apply c voice p n id s).trace = s.trace := by
  unfold slot2Apply; split <;> rfl
@[simp] theorem slot2Apply_latch (c : Chip) (voice : BitVec 2) (p : BitVec 3) (n : Byte) (id : BitVec 5) : (slot2Apply c voice p n id s).latch = s.latch := by
  unfold slot2Apply; split <;> rfl
@[simp] theorem slot2Apply_mem (c : Chip) (voice : BitVec 2) (p : BitVec 3) (n : Byte) (id : BitVec 5) : (slot2Apply c voice p n id s).mem = s.mem := by
  unfold slot2Apply; split <;> rfl
@[simp] theorem slot2Apply_schedule (c : Chip) (voice : BitVec 2) (p : BitVec 3) (n : Byte) (id : BitVec 5) : (slot2Apply c voice p n id s).schedule = s.schedule := by
  unfold slot2Apply; split <;> rfl

/-! ### endPhase -/

@[simp] theorem endPhase_cfg : (endPhase s).cfg = s.cfg := by unfold endPhase; split <;> rfl
@[simp] theorem endPhase_mode : (endPhase s).mode = s.mode := by unfold endPhase; split <;> rfl
@[simp] theorem endPhase_pins : (endPhase s).pins = s.pins := by unfold endPhase; split <;> rfl
@[simp] theorem endPhase_be : (endPhase s).be = s.be := by unfold endPhase; split <;> rfl
@[simp] theorem endPhase_ts : (endPhase s).ts = s.ts := by unfold endPhase; split <;> rfl
@[simp] theorem endPhase_sp : (endPhase s).sp = s.sp := by unfold endPhase; split <;> rfl
@[simp] theorem endPhase_rrSlot : (endPhase s).rrSlot = s.rrSlot := by unfold endPhase; split <;> rfl
@[simp] theorem endPhase_tick : (endPhase s).tick = s.tick := by unfold endPhase; split <;> rfl
@[simp] theorem endPhase_rx : (endPhase s).rx = s.rx := by unfold endPhase; split <;> rfl
@[simp] theorem endPhase_hold : (endPhase s).hold = s.hold := by unfold endPhase; split <;> rfl
@[simp] theorem endPhase_led : (endPhase s).led = s.led := by unfold endPhase; split <;> rfl
@[simp] theorem endPhase_host : (endPhase s).host = s.host := by unfold endPhase; split <;> rfl
@[simp] theorem endPhase_status : (endPhase s).status = s.status := by unfold endPhase; split <;> rfl
@[simp] theorem endPhase_tx : (endPhase s).tx = s.tx := by unfold endPhase; split <;> rfl
@[simp] theorem endPhase_latch : (endPhase s).latch = s.latch := by unfold endPhase; split <;> rfl
@[simp] theorem endPhase_mem : (endPhase s).mem = s.mem := by unfold endPhase; split <;> rfl
@[simp] theorem endPhase_schedule : (endPhase s).schedule = s.schedule := by unfold endPhase; split <;> rfl

end Sys2Proof.Machine
end

