-- ==== Sys2Proof/Laws/Ops.lean ====
section
/-! SUPPORT. The laws of the shared operations: operands, the bus jobs at level T, the jobs of a transaction. Later proofs
cite these and never unfold the operations. -/

namespace Sys2Proof.Machine

/-! ### Operands -/

theorem shIdx_shReg (i : ShIdx) : shIdx (shReg i) = some i := by cases i <;> rfl

theorem shIdx_eq_some {r : RegAddr} {i : ShIdx} : shIdx r = some i ↔ r = shReg i := by
  constructor
  · intro h
    unfold shIdx at h
    repeat' split at h
    all_goals first | (cases h; assumption) | cases h
  · rintro rfl
    exact shIdx_shReg i

theorem shIdx_eq_none {r : RegAddr} : shIdx r = none ↔ ∀ i, r ≠ shReg i := by
  constructor
  · rintro h i rfl
    rw [shIdx_shReg] at h
    cases h
  · intro h
    cases hi : shIdx r with
    | none => rfl
    | some i => exact absurd (shIdx_eq_some.mp hi) (h i)

theorem regShadowed_iff {r : RegAddr} : regShadowed r = true ↔ shIdx r ≠ none := by
  revert r; decide

theorem chipOperand_eq_none {chip : BitVec 2} : chipOperand chip = none ↔ chip = 3 := by
  revert chip; decide

theorem chipOk_iff {chip : BitVec 2} : chipOk chip = true ↔ chipOperand chip ≠ none := by
  revert chip; decide

@[simp] theorem Shadow.get_set_same (sh : Shadow) (i : ShIdx) (v : Byte) : (sh.set i v).get i = v := by
  cases i <;> rfl

theorem Shadow.get_set (sh : Shadow) (i j : ShIdx) (v : Byte) : (sh.set i v).get j = if j = i then v else sh.get j := by
  cases i <;> cases j <;> rfl

theorem maskOf_volumeReg (v : Voice) : maskOf (volumeReg v) = 0x1F := by
  revert v; decide

theorem maskOf_idem (b : Byte) (r : RegAddr) : b &&& maskOf r &&& maskOf r = b &&& maskOf r := by
  rw [BitVec.and_assoc, BitVec.and_self]

theorem masked_and_not (b : Byte) (r : RegAddr) : (b &&& maskOf r) &&& ~~~maskOf r = 0 := by
  rw [BitVec.and_assoc]
  simp

/-- "masked with `MaskOf(r) = 0x1F`, which leaves every amplitude value 0..15 unchanged" (R230). -/
theorem amplitude_mask (a : BitVec 4) (v : Voice) : a.setWidth 8 &&& maskOf (volumeReg v) = a.setWidth 8 := by
  rw [maskOf_volumeReg]
  revert a; decide

theorem fastOk_iff {c : Chip} {r : RegAddr} {s : State} :
    fastOk c r s = true ↔ s.bus.selCache = some c ∧ s.bus.latchValid = true ∧ s.bus.latchReg = r := by
  unfold fastOk
  exact decide_eq_true_iff

/-- The shadow after a data phase, read at any chip and index (R126). -/
theorem shadowAfter_get (c c' : Chip) (r : RegAddr) (vm : Byte) (sh : Triple Shadow) (i : ShIdx) :
    ((shadowAfter c r vm sh).get c').get i = if c' = c ∧ r = shReg i then vm else (sh.get c').get i := by
  unfold shadowAfter
  cases hi : shIdx r with
  | none =>
    have := shIdx_eq_none.mp hi i
    simp [this]
  | some j =>
    have hr := shIdx_eq_some.mp hi
    simp only [Triple.get_set]
    by_cases hc : c' = c
    · subst hc
      simp only [if_true, Shadow.get_set, true_and]
      by_cases hj : i = j
      · subst hj
        simp [hr]
      · have : r ≠ shReg i := by
          intro h
          have h1 := shIdx_shReg i
          rw [← h, hi] at h1
          cases h1
          exact hj rfl
        simp [hj, this]
    · simp [hc]

section
variable (s : State)

/-! ### busSelect: what it never changes -/

@[simp] theorem busSelect_cfg (c : Chip) : (busSelect c s).cfg = s.cfg := rfl
@[simp] theorem busSelect_mode (c : Chip) : (busSelect c s).mode = s.mode := rfl
@[simp] theorem busSelect_be (c : Chip) : (busSelect c s).be = s.be := rfl
@[simp] theorem busSelect_ts (c : Chip) : (busSelect c s).ts = s.ts := rfl
@[simp] theorem busSelect_sp (c : Chip) : (busSelect c s).sp = s.sp := rfl
@[simp] theorem busSelect_rrSlot (c : Chip) : (busSelect c s).rrSlot = s.rrSlot := rfl
@[simp] theorem busSelect_tick (c : Chip) : (busSelect c s).tick = s.tick := rfl
@[simp] theorem busSelect_rx (c : Chip) : (busSelect c s).rx = s.rx := rfl
@[simp] theorem busSelect_hold (c : Chip) : (busSelect c s).hold = s.hold := rfl
@[simp] theorem busSelect_led (c : Chip) : (busSelect c s).led = s.led := rfl
@[simp] theorem busSelect_host (c : Chip) : (busSelect c s).host = s.host := rfl
@[simp] theorem busSelect_status (c : Chip) : (busSelect c s).status = s.status := rfl
@[simp] theorem busSelect_tx (c : Chip) : (busSelect c s).tx = s.tx := rfl
@[simp] theorem busSelect_schedule (c : Chip) : (busSelect c s).schedule = s.schedule := rfl

/-! ### selectIfNeeded: what it never changes -/

@[simp] theorem selectIfNeeded_cfg (c : Chip) : (selectIfNeeded c s).cfg = s.cfg :=
  by unfold selectIfNeeded; split <;> rfl
@[simp] theorem selectIfNeeded_mode (c : Chip) : (selectIfNeeded c s).mode = s.mode :=
  by unfold selectIfNeeded; split <;> rfl
@[simp] theorem selectIfNeeded_be (c : Chip) : (selectIfNeeded c s).be = s.be :=
  by unfold selectIfNeeded; split <;> rfl
@[simp] theorem selectIfNeeded_ts (c : Chip) : (selectIfNeeded c s).ts = s.ts :=
  by unfold selectIfNeeded; split <;> rfl
@[simp] theorem selectIfNeeded_sp (c : Chip) : (selectIfNeeded c s).sp = s.sp :=
  by unfold selectIfNeeded; split <;> rfl
@[simp] theorem selectIfNeeded_rrSlot (c : Chip) : (selectIfNeeded c s).rrSlot = s.rrSlot :=
  by unfold selectIfNeeded; split <;> rfl
@[simp] theorem selectIfNeeded_tick (c : Chip) : (selectIfNeeded c s).tick = s.tick :=
  by unfold selectIfNeeded; split <;> rfl
@[simp] theorem selectIfNeeded_rx (c : Chip) : (selectIfNeeded c s).rx = s.rx :=
  by unfold selectIfNeeded; split <;> rfl
@[simp] theorem selectIfNeeded_hold (c : Chip) : (selectIfNeeded c s).hold = s.hold :=
  by unfold selectIfNeeded; split <;> rfl
@[simp] theorem selectIfNeeded_led (c : Chip) : (selectIfNeeded c s).led = s.led :=
  by unfold selectIfNeeded; split <;> rfl
@[simp] theorem selectIfNeeded_host (c : Chip) : (selectIfNeeded c s).host = s.host :=
  by unfold selectIfNeeded; split <;> rfl
@[simp] theorem selectIfNeeded_status (c : Chip) : (selectIfNeeded c s).status = s.status :=
  by unfold selectIfNeeded; split <;> rfl
@[simp] theorem selectIfNeeded_tx (c : Chip) : (selectIfNeeded c s).tx = s.tx :=
  by unfold selectIfNeeded; split <;> rfl
@[simp] theorem selectIfNeeded_schedule (c : Chip) : (selectIfNeeded c s).schedule = s.schedule :=
  by unfold selectIfNeeded; split <;> rfl

/-! ### addressPhase: what it never changes -/

@[simp] theorem addressPhase_cfg (c : Chip) (r : RegAddr) : (addressPhase c r s).cfg = s.cfg := rfl
@[simp] theorem addressPhase_mode (c : Chip) (r : RegAddr) : (addressPhase c r s).mode = s.mode := rfl
@[simp] theorem addressPhase_be (c : Chip) (r : RegAddr) : (addressPhase c r s).be = s.be := rfl
@[simp] theorem addressPhase_ts (c : Chip) (r : RegAddr) : (addressPhase c r s).ts = s.ts := rfl
@[simp] theorem addressPhase_sp (c : Chip) (r : RegAddr) : (addressPhase c r s).sp = s.sp := rfl
@[simp] theorem addressPhase_rrSlot (c : Chip) (r : RegAddr) : (addressPhase c r s).rrSlot = s.rrSlot := rfl
@[simp] theorem addressPhase_tick (c : Chip) (r : RegAddr) : (addressPhase c r s).tick = s.tick := rfl
@[simp] theorem addressPhase_rx (c : Chip) (r : RegAddr) : (addressPhase c r s).rx = s.rx := rfl
@[simp] theorem addressPhase_hold (c : Chip) (r : RegAddr) : (addressPhase c r s).hold = s.hold := rfl
@[simp] theorem addressPhase_led (c : Chip) (r : RegAddr) : (addressPhase c r s).led = s.led := rfl
@[simp] theorem addressPhase_host (c : Chip) (r : RegAddr) : (addressPhase c r s).host = s.host := rfl
@[simp] theorem addressPhase_status (c : Chip) (r : RegAddr) : (addressPhase c r s).status = s.status := rfl
@[simp] theorem addressPhase_tx (c : Chip) (r : RegAddr) : (addressPhase c r s).tx = s.tx := rfl
@[simp] theorem addressPhase_schedule (c : Chip) (r : RegAddr) : (addressPhase c r s).schedule = s.schedule := rfl

/-! ### dataPhase: what it never changes -/

@[simp] theorem dataPhase_cfg (c : Chip) (r : RegAddr) (v : Byte) : (dataPhase c r v s).cfg = s.cfg :=
  by simp [dataPhase]
@[simp] theorem dataPhase_mode (c : Chip) (r : RegAddr) (v : Byte) : (dataPhase c r v s).mode = s.mode :=
  by simp [dataPhase]
@[simp] theorem dataPhase_be (c : Chip) (r : RegAddr) (v : Byte) : (dataPhase c r v s).be = s.be :=
  by simp [dataPhase]
@[simp] theorem dataPhase_ts (c : Chip) (r : RegAddr) (v : Byte) : (dataPhase c r v s).ts = s.ts :=
  by simp [dataPhase]
@[simp] theorem dataPhase_sp (c : Chip) (r : RegAddr) (v : Byte) : (dataPhase c r v s).sp = s.sp :=
  by simp [dataPhase]
@[simp] theorem dataPhase_rrSlot (c : Chip) (r : RegAddr) (v : Byte) : (dataPhase c r v s).rrSlot = s.rrSlot :=
  by simp [dataPhase]
@[simp] theorem dataPhase_tick (c : Chip) (r : RegAddr) (v : Byte) : (dataPhase c r v s).tick = s.tick :=
  by simp [dataPhase]
@[simp] theorem dataPhase_rx (c : Chip) (r : RegAddr) (v : Byte) : (dataPhase c r v s).rx = s.rx :=
  by simp [dataPhase]
@[simp] theorem dataPhase_hold (c : Chip) (r : RegAddr) (v : Byte) : (dataPhase c r v s).hold = s.hold :=
  by simp [dataPhase]
@[simp] theorem dataPhase_led (c : Chip) (r : RegAddr) (v : Byte) : (dataPhase c r v s).led = s.led :=
  by simp [dataPhase]
@[simp] theorem dataPhase_host (c : Chip) (r : RegAddr) (v : Byte) : (dataPhase c r v s).host = s.host :=
  by simp [dataPhase]
@[simp] theorem dataPhase_status (c : Chip) (r : RegAddr) (v : Byte) : (dataPhase c r v s).status = s.status :=
  by simp [dataPhase]
@[simp] theorem dataPhase_tx (c : Chip) (r : RegAddr) (v : Byte) : (dataPhase c r v s).tx = s.tx :=
  by simp [dataPhase]
@[simp] theorem dataPhase_schedule (c : Chip) (r : RegAddr) (v : Byte) : (dataPhase c r v s).schedule = s.schedule :=
  by simp [dataPhase]

/-! ### busWrite: what it never changes -/

@[simp] theorem busWrite_cfg (c : Chip) (r : RegAddr) (v : Byte) : (busWrite c r v s).cfg = s.cfg :=
  by simp [busWrite]
@[simp] theorem busWrite_mode (c : Chip) (r : RegAddr) (v : Byte) : (busWrite c r v s).mode = s.mode :=
  by simp [busWrite]
@[simp] theorem busWrite_be (c : Chip) (r : RegAddr) (v : Byte) : (busWrite c r v s).be = s.be := by simp [busWrite]
@[simp] theorem busWrite_ts (c : Chip) (r : RegAddr) (v : Byte) : (busWrite c r v s).ts = s.ts := by simp [busWrite]
@[simp] theorem busWrite_sp (c : Chip) (r : RegAddr) (v : Byte) : (busWrite c r v s).sp = s.sp := by simp [busWrite]
@[simp] theorem busWrite_rrSlot (c : Chip) (r : RegAddr) (v : Byte) : (busWrite c r v s).rrSlot = s.rrSlot :=
  by simp [busWrite]
@[simp] theorem busWrite_tick (c : Chip) (r : RegAddr) (v : Byte) : (busWrite c r v s).tick = s.tick :=
  by simp [busWrite]
@[simp] theorem busWrite_rx (c : Chip) (r : RegAddr) (v : Byte) : (busWrite c r v s).rx = s.rx := by simp [busWrite]
@[simp] theorem busWrite_hold (c : Chip) (r : RegAddr) (v : Byte) : (busWrite c r v s).hold = s.hold :=
  by simp [busWrite]
@[simp] theorem busWrite_led (c : Chip) (r : RegAddr) (v : Byte) : (busWrite c r v s).led = s.led :=
  by simp [busWrite]
@[simp] theorem busWrite_host (c : Chip) (r : RegAddr) (v : Byte) : (busWrite c r v s).host = s.host :=
  by simp [busWrite]
@[simp] theorem busWrite_status (c : Chip) (r : RegAddr) (v : Byte) : (busWrite c r v s).status = s.status :=
  by simp [busWrite]
@[simp] theorem busWrite_tx (c : Chip) (r : RegAddr) (v : Byte) : (busWrite c r v s).tx = s.tx := by simp [busWrite]
@[simp] theorem busWrite_schedule (c : Chip) (r : RegAddr) (v : Byte) : (busWrite c r v s).schedule = s.schedule :=
  by simp [busWrite]

/-! ### busWriteFast: what it never changes -/

@[simp] theorem busWriteFast_cfg (c : Chip) (r : RegAddr) (v : Byte) : (busWriteFast c r v s).cfg = s.cfg :=
  by simp [busWriteFast]
@[simp] theorem busWriteFast_mode (c : Chip) (r : RegAddr) (v : Byte) : (busWriteFast c r v s).mode = s.mode :=
  by simp [busWriteFast]
@[simp] theorem busWriteFast_be (c : Chip) (r : RegAddr) (v : Byte) : (busWriteFast c r v s).be = s.be :=
  by simp [busWriteFast]
@[simp] theorem busWriteFast_ts (c : Chip) (r : RegAddr) (v : Byte) : (busWriteFast c r v s).ts = s.ts :=
  by simp [busWriteFast]
@[simp] theorem busWriteFast_sp (c : Chip) (r : RegAddr) (v : Byte) : (busWriteFast c r v s).sp = s.sp :=
  by simp [busWriteFast]
@[simp] theorem busWriteFast_rrSlot (c : Chip) (r : RegAddr) (v : Byte) : (busWriteFast c r v s).rrSlot = s.rrSlot :=
  by simp [busWriteFast]
@[simp] theorem busWriteFast_tick (c : Chip) (r : RegAddr) (v : Byte) : (busWriteFast c r v s).tick = s.tick :=
  by simp [busWriteFast]
@[simp] theorem busWriteFast_rx (c : Chip) (r : RegAddr) (v : Byte) : (busWriteFast c r v s).rx = s.rx :=
  by simp [busWriteFast]
@[simp] theorem busWriteFast_hold (c : Chip) (r : RegAddr) (v : Byte) : (busWriteFast c r v s).hold = s.hold :=
  by simp [busWriteFast]
@[simp] theorem busWriteFast_led (c : Chip) (r : RegAddr) (v : Byte) : (busWriteFast c r v s).led = s.led :=
  by simp [busWriteFast]
@[simp] theorem busWriteFast_host (c : Chip) (r : RegAddr) (v : Byte) : (busWriteFast c r v s).host = s.host :=
  by simp [busWriteFast]
@[simp] theorem busWriteFast_status (c : Chip) (r : RegAddr) (v : Byte) : (busWriteFast c r v s).status = s.status :=
  by simp [busWriteFast]
@[simp] theorem busWriteFast_tx (c : Chip) (r : RegAddr) (v : Byte) : (busWriteFast c r v s).tx = s.tx :=
  by simp [busWriteFast]
@[simp] theorem busWriteFast_schedule (c : Chip) (r : RegAddr) (v : Byte) : (busWriteFast c r v s).schedule = s.schedule :=
  by simp [busWriteFast]

/-! ### runJob, runJobs: what they never change -/

@[simp] theorem runJob_cfg (j : JobReq) : (runJob s j).cfg = s.cfg := by
  unfold runJob; split <;> simp
@[simp] theorem runJob_mode (j : JobReq) : (runJob s j).mode = s.mode := by
  unfold runJob; split <;> simp
@[simp] theorem runJob_be (j : JobReq) : (runJob s j).be = s.be := by
  unfold runJob; split <;> simp
@[simp] theorem runJob_ts (j : JobReq) : (runJob s j).ts = s.ts := by
  unfold runJob; split <;> simp
@[simp] theorem runJob_sp (j : JobReq) : (runJob s j).sp = s.sp := by
  unfold runJob; split <;> simp
@[simp] theorem runJob_rrSlot (j : JobReq) : (runJob s j).rrSlot = s.rrSlot := by
  unfold runJob; split <;> simp
@[simp] theorem runJob_tick (j : JobReq) : (runJob s j).tick = s.tick := by
  unfold runJob; split <;> simp
@[simp] theorem runJob_rx (j : JobReq) : (runJob s j).rx = s.rx := by
  unfold runJob; split <;> simp
@[simp] theorem runJob_hold (j : JobReq) : (runJob s j).hold = s.hold := by
  unfold runJob; split <;> simp
@[simp] theorem runJob_led (j : JobReq) : (runJob s j).led = s.led := by
  unfold runJob; split <;> simp
@[simp] theorem runJob_host (j : JobReq) : (runJob s j).host = s.host := by
  unfold runJob; split <;> simp
@[simp] theorem runJob_status (j : JobReq) : (runJob s j).status = s.status := by
  unfold runJob; split <;> simp
@[simp] theorem runJob_tx (j : JobReq) : (runJob s j).tx = s.tx := by
  unfold runJob; split <;> simp
@[simp] theorem runJob_schedule (j : JobReq) : (runJob s j).schedule = s.schedule := by
  unfold runJob; split <;> simp

@[simp] theorem runJobs_nil : runJobs [] s = s := rfl

@[simp] theorem runJobs_cons (j : JobReq) (js : List JobReq) : runJobs (j :: js) s = runJobs js (runJob s j) := rfl

theorem runJobs_append (js ks : List JobReq) : runJobs (js ++ ks) s = runJobs ks (runJobs js s) := by
  simp [runJobs, List.foldl_append]

@[simp] theorem runJobs_cfg (js : List JobReq) : (runJobs js s).cfg = s.cfg := by
  induction js generalizing s with
  | nil => rfl
  | cons j js ih => simp [ih]
@[simp] theorem runJobs_mode (js : List JobReq) : (runJobs js s).mode = s.mode := by
  induction js generalizing s with
  | nil => rfl
  | cons j js ih => simp [ih]
@[simp] theorem runJobs_be (js : List JobReq) : (runJobs js s).be = s.be := by
  induction js generalizing s with
  | nil => rfl
  | cons j js ih => simp [ih]
@[simp] theorem runJobs_ts (js : List JobReq) : (runJobs js s).ts = s.ts := by
  induction js generalizing s with
  | nil => rfl
  | cons j js ih => simp [ih]
@[simp] theorem runJobs_sp (js : List JobReq) : (runJobs js s).sp = s.sp := by
  induction js generalizing s with
  | nil => rfl
  | cons j js ih => simp [ih]
@[simp] theorem runJobs_rrSlot (js : List JobReq) : (runJobs js s).rrSlot = s.rrSlot := by
  induction js generalizing s with
  | nil => rfl
  | cons j js ih => simp [ih]
@[simp] theorem runJobs_tick (js : List JobReq) : (runJobs js s).tick = s.tick := by
  induction js generalizing s with
  | nil => rfl
  | cons j js ih => simp [ih]
@[simp] theorem runJobs_rx (js : List JobReq) : (runJobs js s).rx = s.rx := by
  induction js generalizing s with
  | nil => rfl
  | cons j js ih => simp [ih]
@[simp] theorem runJobs_hold (js : List JobReq) : (runJobs js s).hold = s.hold := by
  induction js generalizing s with
  | nil => rfl
  | cons j js ih => simp [ih]
@[simp] theorem runJobs_led (js : List JobReq) : (runJobs js s).led = s.led := by
  induction js generalizing s with
  | nil => rfl
  | cons j js ih => simp [ih]
@[simp] theorem runJobs_host (js : List JobReq) : (runJobs js s).host = s.host := by
  induction js generalizing s with
  | nil => rfl
  | cons j js ih => simp [ih]
@[simp] theorem runJobs_status (js : List JobReq) : (runJobs js s).status = s.status := by
  induction js generalizing s with
  | nil => rfl
  | cons j js ih => simp [ih]
@[simp] theorem runJobs_tx (js : List JobReq) : (runJobs js s).tx = s.tx := by
  induction js generalizing s with
  | nil => rfl
  | cons j js ih => simp [ih]
@[simp] theorem runJobs_schedule (js : List JobReq) : (runJobs js s).schedule = s.schedule := by
  induction js generalizing s with
  | nil => rfl
  | cons j js ih => simp [ih]

/-! ### What the jobs do -/

@[simp] theorem busSelect_bus (c : Chip) :
    (busSelect c s).bus = { s.bus with selCache := some c, latchValid := false } := rfl
@[simp] theorem busSelect_trace (c : Chip) : (busSelect c s).trace = s.trace ++ [.sel c] := rfl
@[simp] theorem busSelect_pins (c : Chip) : (busSelect c s).pins = { s.pins with selO := s.cfg.selCode c } := rfl
@[simp] theorem busSelect_shadow (c : Chip) : (busSelect c s).shadow = s.shadow := rfl
@[simp] theorem busSelect_latch (c : Chip) : (busSelect c s).latch = s.latch := rfl
@[simp] theorem busSelect_mem (c : Chip) : (busSelect c s).mem = s.mem := rfl

/-- The selection events of a full write: one pulse if and only if the cache differs (R124). -/
def selEvents (c : Chip) (s : State) : List BusEvent := if s.bus.selCache = some c then [] else [.sel c]

theorem selectIfNeeded_selCache (c : Chip) : (selectIfNeeded c s).bus.selCache = some c := by
  unfold selectIfNeeded; split
  · assumption
  · rfl

theorem selectIfNeeded_trace (c : Chip) : (selectIfNeeded c s).trace = s.trace ++ selEvents c s := by
  unfold selectIfNeeded selEvents; split <;> simp

@[simp] theorem selectIfNeeded_shadow (c : Chip) : (selectIfNeeded c s).shadow = s.shadow := by
  unfold selectIfNeeded; split <;> rfl
@[simp] theorem selectIfNeeded_latch (c : Chip) : (selectIfNeeded c s).latch = s.latch := by
  unfold selectIfNeeded; split <;> rfl
@[simp] theorem selectIfNeeded_mem (c : Chip) : (selectIfNeeded c s).mem = s.mem := by
  unfold selectIfNeeded; split <;> rfl

@[simp] theorem addressPhase_bus (c : Chip) (r : RegAddr) :
    (addressPhase c r s).bus = { s.bus with latchValid := true, latchReg := r } := rfl
@[simp] theorem addressPhase_trace (c : Chip) (r : RegAddr) :
    (addressPhase c r s).trace = s.trace ++ [.addr c r] := rfl
@[simp] theorem addressPhase_latch (c : Chip) (r : RegAddr) :
    (addressPhase c r s).latch = s.latch.set c (some r) := rfl
@[simp] theorem addressPhase_shadow (c : Chip) (r : RegAddr) : (addressPhase c r s).shadow = s.shadow := rfl
@[simp] theorem addressPhase_mem (c : Chip) (r : RegAddr) : (addressPhase c r s).mem = s.mem := rfl
@[simp] theorem addressPhase_pins (c : Chip) (r : RegAddr) : (addressPhase c r s).pins = s.pins := rfl

/-- The image after chip c stored a byte, when its latch is known. -/
theorem chipStores_mem_known {c : Chip} {r : RegAddr} (v : Byte) (h : s.latch.get c = some r) :
    (chipStores c v s).mem = s.mem.write (chipRegAddr c r) v := by
  unfold chipStores; rw [h]

theorem chipStores_mem_unknown {c : Chip} (v : Byte) (h : s.latch.get c = none) :
    (chipStores c v s).mem = s.mem.forget (32 * c.val) 32 := by
  unfold chipStores; rw [h]

@[simp] theorem dataPhase_bus (c : Chip) (r : RegAddr) (v : Byte) : (dataPhase c r v s).bus = s.bus := by
  simp [dataPhase]
@[simp] theorem dataPhase_trace (c : Chip) (r : RegAddr) (v : Byte) :
    (dataPhase c r v s).trace = s.trace ++ [.data c r v] := by simp [dataPhase]
@[simp] theorem dataPhase_shadow (c : Chip) (r : RegAddr) (v : Byte) :
    (dataPhase c r v s).shadow = shadowAfter c r v s.shadow := by simp [dataPhase]
@[simp] theorem dataPhase_latch (c : Chip) (r : RegAddr) (v : Byte) : (dataPhase c r v s).latch = s.latch := by
  simp [dataPhase]
theorem dataPhase_mem (c : Chip) (r : RegAddr) (v : Byte) :
    (dataPhase c r v s).mem = (chipStores c v (dataEnd c r v s)).mem := by simp [dataPhase]
theorem dataPhase_pins (c : Chip) (r : RegAddr) (v : Byte) :
    (dataPhase c r v s).pins = { s.pins with dO := v } := by simp [dataPhase]

/-- A full write leaves its chip selected and its register latched (R121). -/
@[simp] theorem busWrite_bus (c : Chip) (r : RegAddr) (v : Byte) : (busWrite c r v s).bus = ⟨some c, true, r⟩ := by
  simp [busWrite, selectIfNeeded_selCache]

/-- The events of a full write (R121, R104). -/
theorem busWrite_trace (c : Chip) (r : RegAddr) (v : Byte) :
    (busWrite c r v s).trace = s.trace ++ selEvents c s ++ [.addr c r, .data c r (v &&& maskOf r)] := by
  simp [busWrite, selectIfNeeded_trace]

@[simp] theorem busWrite_shadow (c : Chip) (r : RegAddr) (v : Byte) :
    (busWrite c r v s).shadow = shadowAfter c r (v &&& maskOf r) s.shadow := by simp [busWrite]
@[simp] theorem busWrite_latch (c : Chip) (r : RegAddr) (v : Byte) :
    (busWrite c r v s).latch = s.latch.set c (some r) := by simp [busWrite]

/-- A full write stores the masked value at its register: the address phase has latched it (R62, R121). -/
@[simp] theorem busWrite_mem (c : Chip) (r : RegAddr) (v : Byte) :
    (busWrite c r v s).mem = s.mem.write (chipRegAddr c r) (v &&& maskOf r) := by
  have h : (dataEnd c r (v &&& maskOf r) (addressPhase c r (selectIfNeeded c s))).latch.get c = some r := by simp
  simp [busWrite, dataPhase_mem, chipStores_mem_known _ _ h]

@[simp] theorem busWriteFast_bus (c : Chip) (r : RegAddr) (v : Byte) : (busWriteFast c r v s).bus = s.bus := by
  simp [busWriteFast]
theorem busWriteFast_trace (c : Chip) (r : RegAddr) (v : Byte) :
    (busWriteFast c r v s).trace = s.trace ++ [.data c r (v &&& maskOf r)] := by simp [busWriteFast]
@[simp] theorem busWriteFast_shadow (c : Chip) (r : RegAddr) (v : Byte) :
    (busWriteFast c r v s).shadow = shadowAfter c r (v &&& maskOf r) s.shadow := by simp [busWriteFast]
@[simp] theorem busWriteFast_latch (c : Chip) (r : RegAddr) (v : Byte) : (busWriteFast c r v s).latch = s.latch := by
  simp [busWriteFast]

/-- A fast write stores at the register the chip has latched (R62, R121). -/
theorem busWriteFast_mem {c : Chip} {a : RegAddr} (r : RegAddr) (v : Byte) (h : s.latch.get c = some a) :
    (busWriteFast c r v s).mem = s.mem.write (chipRegAddr c a) (v &&& maskOf r) := by
  have h' : (dataEnd c r (v &&& maskOf r) s).latch.get c = some a := by simpa using h
  simp [busWriteFast, dataPhase_mem, chipStores_mem_known _ _ h']

/-- What one job can do: a selection, a full write, or a fast write; an amplitude job is one of the last two, as `FastOK`
says when it starts (R121, R127, R230). -/
theorem runJob_cases (j : JobReq) :
    (j.kind = .select ∧ runJob s j = busSelect j.chip s) ∨
    (j.kind = .write ∧ runJob s j = busWrite j.chip j.reg j.value s) ∨
    (j.kind = .fast ∧ runJob s j = busWriteFast j.chip j.reg j.value s) ∨
    (j.kind = .amp ∧ fastOk j.chip j.reg s = true ∧ runJob s j = busWriteFast j.chip j.reg j.value s) ∨
    (j.kind = .amp ∧ fastOk j.chip j.reg s = false ∧ runJob s j = busWrite j.chip j.reg j.value s) := by
  cases hk : j.kind <;> simp [runJob, resolve, hk]
  by_cases hf : fastOk j.chip j.reg s = true <;> simp [hf]

end

end Sys2Proof.Machine
end

