-- ==== Sys2Proof/Laws/Exec.lean ====
section
/-! SUPPORT. The laws of the transactions: what finishing a host command can do, and what a HOST, FRAME or SCHED transaction
leaves alone. -/

namespace Sys2Proof.Machine

variable (s : State)

/-- What the end of a host command can do: a result byte, `STATUS` read and cleared, or a rejection (R142, R145, R276). -/
theorem finishHost_cases (p : HostPlan) :
    (∃ b, p.err = .ok ∧ p.data = .byte b ∧ finishHost p s = completeHost .ok b s) ∨
    (p.err = .ok ∧ p.data = .status ∧ finishHost p s = clearStatus (completeHost .ok s.status s)) ∨
    (p.err ≠ .ok ∧ finishHost p s = rejectHost p.err s) := by
  rcases p with ⟨e, js, d⟩
  cases e <;> cases d <;> simp [finishHost]

@[simp] theorem finishHost_cfg (p : HostPlan) : (finishHost p s).cfg = s.cfg := by
  rcases finishHost_cases s p with ⟨b, -, -, h⟩ | ⟨-, -, h⟩ | ⟨-, h⟩ <;> rw [h] <;> rfl
@[simp] theorem finishHost_mode (p : HostPlan) : (finishHost p s).mode = s.mode := by
  rcases finishHost_cases s p with ⟨b, -, -, h⟩ | ⟨-, -, h⟩ | ⟨-, h⟩ <;> rw [h] <;> rfl
@[simp] theorem finishHost_bus (p : HostPlan) : (finishHost p s).bus = s.bus := by
  rcases finishHost_cases s p with ⟨b, -, -, h⟩ | ⟨-, -, h⟩ | ⟨-, h⟩ <;> rw [h] <;> rfl
@[simp] theorem finishHost_pins (p : HostPlan) : (finishHost p s).pins = s.pins := by
  rcases finishHost_cases s p with ⟨b, -, -, h⟩ | ⟨-, -, h⟩ | ⟨-, h⟩ <;> rw [h] <;> rfl
@[simp] theorem finishHost_be (p : HostPlan) : (finishHost p s).be = s.be := by
  rcases finishHost_cases s p with ⟨b, -, -, h⟩ | ⟨-, -, h⟩ | ⟨-, h⟩ <;> rw [h] <;> rfl
@[simp] theorem finishHost_shadow (p : HostPlan) : (finishHost p s).shadow = s.shadow := by
  rcases finishHost_cases s p with ⟨b, -, -, h⟩ | ⟨-, -, h⟩ | ⟨-, h⟩ <;> rw [h] <;> rfl
@[simp] theorem finishHost_ts (p : HostPlan) : (finishHost p s).ts = s.ts := by
  rcases finishHost_cases s p with ⟨b, -, -, h⟩ | ⟨-, -, h⟩ | ⟨-, h⟩ <;> rw [h] <;> rfl
@[simp] theorem finishHost_sp (p : HostPlan) : (finishHost p s).sp = s.sp := by
  rcases finishHost_cases s p with ⟨b, -, -, h⟩ | ⟨-, -, h⟩ | ⟨-, h⟩ <;> rw [h] <;> rfl
@[simp] theorem finishHost_rrSlot (p : HostPlan) : (finishHost p s).rrSlot = s.rrSlot := by
  rcases finishHost_cases s p with ⟨b, -, -, h⟩ | ⟨-, -, h⟩ | ⟨-, h⟩ <;> rw [h] <;> rfl
@[simp] theorem finishHost_tick (p : HostPlan) : (finishHost p s).tick = s.tick := by
  rcases finishHost_cases s p with ⟨b, -, -, h⟩ | ⟨-, -, h⟩ | ⟨-, h⟩ <;> rw [h] <;> rfl
@[simp] theorem finishHost_rx (p : HostPlan) : (finishHost p s).rx = s.rx := by
  rcases finishHost_cases s p with ⟨b, -, -, h⟩ | ⟨-, -, h⟩ | ⟨-, h⟩ <;> rw [h] <;> rfl
@[simp] theorem finishHost_hold (p : HostPlan) : (finishHost p s).hold = s.hold := by
  rcases finishHost_cases s p with ⟨b, -, -, h⟩ | ⟨-, -, h⟩ | ⟨-, h⟩ <;> rw [h] <;> rfl
@[simp] theorem finishHost_led (p : HostPlan) : (finishHost p s).led = s.led := by
  rcases finishHost_cases s p with ⟨b, -, -, h⟩ | ⟨-, -, h⟩ | ⟨-, h⟩ <;> rw [h] <;> rfl
@[simp] theorem finishHost_trace (p : HostPlan) : (finishHost p s).trace = s.trace := by
  rcases finishHost_cases s p with ⟨b, -, -, h⟩ | ⟨-, -, h⟩ | ⟨-, h⟩ <;> rw [h] <;> rfl
@[simp] theorem finishHost_latch (p : HostPlan) : (finishHost p s).latch = s.latch := by
  rcases finishHost_cases s p with ⟨b, -, -, h⟩ | ⟨-, -, h⟩ | ⟨-, h⟩ <;> rw [h] <;> rfl
@[simp] theorem finishHost_mem (p : HostPlan) : (finishHost p s).mem = s.mem := by
  rcases finishHost_cases s p with ⟨b, -, -, h⟩ | ⟨-, -, h⟩ | ⟨-, h⟩ <;> rw [h] <;> rfl
@[simp] theorem finishHost_tx (p : HostPlan) : (finishHost p s).tx = s.tx := by
  rcases finishHost_cases s p with ⟨b, -, -, h⟩ | ⟨-, -, h⟩ | ⟨-, h⟩ <;> rw [h] <;> rfl
@[simp] theorem finishHost_schedule (p : HostPlan) : (finishHost p s).schedule = s.schedule := by
  rcases finishHost_cases s p with ⟨b, -, -, h⟩ | ⟨-, -, h⟩ | ⟨-, h⟩ <;> rw [h] <;> rfl

/-- The host port after a command (R145): the handshake is free, `h_done_o` is up, the code is out. -/
theorem finishHost_host (p : HostPlan) :
    (finishHost p s).host.hostPending = false ∧ (finishHost p s).host.hDoneO = true ∧
    (finishHost p s).host.hostCmd = s.host.hostCmd ∧ (finishHost p s).host.hErrO = p.err.code := by
  rcases finishHost_cases s p with ⟨b, he, -, h⟩ | ⟨he, -, h⟩ | ⟨-, h⟩ <;> rw [h] <;> simp_all [rejectHost]

theorem finishHost_accepted_byte {p : HostPlan} {b : Byte} (he : p.err = .ok) (hd : p.data = .byte b) :
    finishHost p s = completeHost .ok b s := by
  rcases finishHost_cases s p with ⟨b', -, hd', h⟩ | ⟨-, hd', -⟩ | ⟨hn, -⟩
  · rw [hd] at hd'; cases hd'; exact h
  · rw [hd] at hd'; cases hd'
  · exact absurd he hn

theorem finishHost_rejected {p : HostPlan} (he : p.err ≠ .ok) : finishHost p s = rejectHost p.err s := by
  rcases finishHost_cases s p with ⟨b', h', -, -⟩ | ⟨h', -, -⟩ | ⟨-, h⟩
  · exact absurd h' he
  · exact absurd h' he
  · exact h

/-! ### HOST transactions -/

@[simp] theorem hostTransaction_cfg (p : HostPlan) : (hostTransaction p s).cfg = s.cfg := by
  simp [hostTransaction]
@[simp] theorem hostTransaction_mode (p : HostPlan) : (hostTransaction p s).mode = s.mode := by
  simp [hostTransaction]
@[simp] theorem hostTransaction_be (p : HostPlan) : (hostTransaction p s).be = s.be := by
  simp [hostTransaction]
@[simp] theorem hostTransaction_ts (p : HostPlan) : (hostTransaction p s).ts = s.ts := by
  simp [hostTransaction]
@[simp] theorem hostTransaction_sp (p : HostPlan) : (hostTransaction p s).sp = s.sp := by
  simp [hostTransaction]
@[simp] theorem hostTransaction_rrSlot (p : HostPlan) : (hostTransaction p s).rrSlot = s.rrSlot := by
  simp [hostTransaction]
@[simp] theorem hostTransaction_tick (p : HostPlan) : (hostTransaction p s).tick = s.tick := by
  simp [hostTransaction]
@[simp] theorem hostTransaction_rx (p : HostPlan) : (hostTransaction p s).rx = s.rx := by
  simp [hostTransaction]
@[simp] theorem hostTransaction_hold (p : HostPlan) : (hostTransaction p s).hold = s.hold := by
  simp [hostTransaction]
@[simp] theorem hostTransaction_led (p : HostPlan) : (hostTransaction p s).led = s.led := by
  simp [hostTransaction]
@[simp] theorem hostTransaction_schedule (p : HostPlan) : (hostTransaction p s).schedule = s.schedule := by
  simp [hostTransaction]
@[simp] theorem hostTransaction_bus (p : HostPlan) :
    (hostTransaction p s).bus = (runJobs p.jobs s).bus := by
  simp [hostTransaction]
@[simp] theorem hostTransaction_pins (p : HostPlan) :
    (hostTransaction p s).pins = (runJobs p.jobs s).pins := by
  simp [hostTransaction]
@[simp] theorem hostTransaction_shadow (p : HostPlan) :
    (hostTransaction p s).shadow = (runJobs p.jobs s).shadow := by
  simp [hostTransaction]
@[simp] theorem hostTransaction_trace (p : HostPlan) :
    (hostTransaction p s).trace = (runJobs p.jobs s).trace := by
  simp [hostTransaction]
@[simp] theorem hostTransaction_latch (p : HostPlan) :
    (hostTransaction p s).latch = (runJobs p.jobs s).latch := by
  simp [hostTransaction]
@[simp] theorem hostTransaction_mem (p : HostPlan) :
    (hostTransaction p s).mem = (runJobs p.jobs s).mem := by
  simp [hostTransaction]

@[simp] theorem hostTransaction_tx (p : HostPlan) :
    (hostTransaction p s).tx = ⟨.nobody, .grant, p.jobs, p.jobs.length⟩ := rfl
@[simp] theorem hostTransaction_host (p : HostPlan) :
    (hostTransaction p s).host = (finishHost p (runJobs p.jobs s)).host := rfl
@[simp] theorem hostTransaction_status (p : HostPlan) :
    (hostTransaction p s).status = (finishHost p (runJobs p.jobs s)).status := rfl

/-! ### FRAME and SCHED transactions -/

@[simp] theorem frameTransaction_cfg (c : Chip) (f : Frame) :
    (frameTransaction c f s).cfg = s.cfg := by
  simp [frameTransaction, frameFinal, frameSlots]
@[simp] theorem frameTransaction_mode (c : Chip) (f : Frame) :
    (frameTransaction c f s).mode = s.mode := by
  simp [frameTransaction, frameFinal, frameSlots]
@[simp] theorem frameTransaction_be (c : Chip) (f : Frame) :
    (frameTransaction c f s).be = s.be := by
  simp [frameTransaction, frameFinal, frameSlots]
@[simp] theorem frameTransaction_rx (c : Chip) (f : Frame) :
    (frameTransaction c f s).rx = s.rx := by
  simp [frameTransaction, frameFinal, frameSlots]
@[simp] theorem frameTransaction_host (c : Chip) (f : Frame) :
    (frameTransaction c f s).host = { s.host with hDoneO := false } := by
  simp [frameTransaction, frameFinal, frameSlots]
@[simp] theorem frameTransaction_status (c : Chip) (f : Frame) :
    (frameTransaction c f s).status = s.status := by
  simp [frameTransaction, frameFinal, frameSlots]
@[simp] theorem frameTransaction_schedule (c : Chip) (f : Frame) :
    (frameTransaction c f s).schedule = s.schedule := by
  simp [frameTransaction, frameFinal, frameSlots]
@[simp] theorem frameTransaction_tick (c : Chip) (f : Frame) :
    (frameTransaction c f s).tick = s.tick := by
  simp [frameTransaction, frameFinal, frameSlots]
@[simp] theorem schedTransaction_cfg (js : List JobReq) :
    (schedTransaction js s).cfg = s.cfg := by
  simp [schedTransaction]
@[simp] theorem schedTransaction_mode (js : List JobReq) :
    (schedTransaction js s).mode = s.mode := by
  simp [schedTransaction]
@[simp] theorem schedTransaction_be (js : List JobReq) :
    (schedTransaction js s).be = s.be := by
  simp [schedTransaction]
@[simp] theorem schedTransaction_rx (js : List JobReq) :
    (schedTransaction js s).rx = s.rx := by
  simp [schedTransaction]
@[simp] theorem schedTransaction_hold (js : List JobReq) :
    (schedTransaction js s).hold = s.hold := by
  simp [schedTransaction]
@[simp] theorem schedTransaction_led (js : List JobReq) :
    (schedTransaction js s).led = s.led := by
  simp [schedTransaction]
@[simp] theorem schedTransaction_host (js : List JobReq) :
    (schedTransaction js s).host = { s.host with hDoneO := false } := by
  simp [schedTransaction]
@[simp] theorem schedTransaction_status (js : List JobReq) :
    (schedTransaction js s).status = s.status := by
  simp [schedTransaction]
@[simp] theorem schedTransaction_schedule (js : List JobReq) :
    (schedTransaction js s).schedule = s.schedule := by
  simp [schedTransaction]

/-! ### Every operation completes -/

theorem execFrame_next (f : Frame) : ∃ t, execFrame f s = .next t := by
  unfold execFrame
  split <;> exact ⟨_, rfl⟩

end Sys2Proof.Machine
end

