-- ==== Sys2Proof/Laws/Cycle.lean ====
section
/-! SUPPORT. The agents of the clock cycle: for each, one lemma per field it leaves alone, and one lemma that says what it can
do. -/

namespace Sys2Proof.Machine

variable (s : State)

/-! ### startJob -/

@[simp] theorem startJob_cfg (j : JobReq) : (startJob j s).cfg = s.cfg := rfl
@[simp] theorem startJob_mode (j : JobReq) : (startJob j s).mode = s.mode := rfl
@[simp] theorem startJob_bus (j : JobReq) : (startJob j s).bus = s.bus := rfl
@[simp] theorem startJob_pins (j : JobReq) : (startJob j s).pins = s.pins := rfl
@[simp] theorem startJob_shadow (j : JobReq) : (startJob j s).shadow = s.shadow := rfl
@[simp] theorem startJob_ts (j : JobReq) : (startJob j s).ts = s.ts := rfl
@[simp] theorem startJob_sp (j : JobReq) : (startJob j s).sp = s.sp := rfl
@[simp] theorem startJob_rrSlot (j : JobReq) : (startJob j s).rrSlot = s.rrSlot := rfl
@[simp] theorem startJob_tick (j : JobReq) : (startJob j s).tick = s.tick := rfl
@[simp] theorem startJob_rx (j : JobReq) : (startJob j s).rx = s.rx := rfl
@[simp] theorem startJob_hold (j : JobReq) : (startJob j s).hold = s.hold := rfl
@[simp] theorem startJob_led (j : JobReq) : (startJob j s).led = s.led := rfl
@[simp] theorem startJob_host (j : JobReq) : (startJob j s).host = s.host := rfl
@[simp] theorem startJob_status (j : JobReq) : (startJob j s).status = s.status := rfl
@[simp] theorem startJob_tx (j : JobReq) : (startJob j s).tx = s.tx := rfl
@[simp] theorem startJob_trace (j : JobReq) : (startJob j s).trace = s.trace := rfl
@[simp] theorem startJob_latch (j : JobReq) : (startJob j s).latch = s.latch := rfl
@[simp] theorem startJob_mem (j : JobReq) : (startJob j s).mem = s.mem := rfl
@[simp] theorem startJob_schedule (j : JobReq) : (startJob j s).schedule = s.schedule := rfl

/-! ### stopEngine -/

@[simp] theorem stopEngine_cfg : (stopEngine s).cfg = s.cfg := rfl
@[simp] theorem stopEngine_mode : (stopEngine s).mode = s.mode := rfl
@[simp] theorem stopEngine_bus : (stopEngine s).bus = s.bus := rfl
@[simp] theorem stopEngine_pins : (stopEngine s).pins = s.pins := rfl
@[simp] theorem stopEngine_shadow : (stopEngine s).shadow = s.shadow := rfl
@[simp] theorem stopEngine_ts : (stopEngine s).ts = s.ts := rfl
@[simp] theorem stopEngine_sp : (stopEngine s).sp = s.sp := rfl
@[simp] theorem stopEngine_rrSlot : (stopEngine s).rrSlot = s.rrSlot := rfl
@[simp] theorem stopEngine_tick : (stopEngine s).tick = s.tick := rfl
@[simp] theorem stopEngine_rx : (stopEngine s).rx = s.rx := rfl
@[simp] theorem stopEngine_hold : (stopEngine s).hold = s.hold := rfl
@[simp] theorem stopEngine_led : (stopEngine s).led = s.led := rfl
@[simp] theorem stopEngine_host : (stopEngine s).host = s.host := rfl
@[simp] theorem stopEngine_status : (stopEngine s).status = s.status := rfl
@[simp] theorem stopEngine_trace : (stopEngine s).trace = s.trace := rfl
@[simp] theorem stopEngine_latch : (stopEngine s).latch = s.latch := rfl
@[simp] theorem stopEngine_mem : (stopEngine s).mem = s.mem := rfl
@[simp] theorem stopEngine_schedule : (stopEngine s).schedule = s.schedule := rfl

/-! ### nextJob -/

@[simp] theorem nextJob_cfg : (nextJob s).cfg = s.cfg := by
  unfold nextJob; split; · rfl
  split <;> simp
@[simp] theorem nextJob_mode : (nextJob s).mode = s.mode := by
  unfold nextJob; split; · rfl
  split <;> simp
@[simp] theorem nextJob_bus : (nextJob s).bus = s.bus := by
  unfold nextJob; split; · rfl
  split <;> simp
@[simp] theorem nextJob_pins : (nextJob s).pins = s.pins := by
  unfold nextJob; split; · rfl
  split <;> simp
@[simp] theorem nextJob_shadow : (nextJob s).shadow = s.shadow := by
  unfold nextJob; split; · rfl
  split <;> simp
@[simp] theorem nextJob_ts : (nextJob s).ts = s.ts := by
  unfold nextJob; split; · rfl
  split <;> simp
@[simp] theorem nextJob_sp : (nextJob s).sp = s.sp := by
  unfold nextJob; split; · rfl
  split <;> simp
@[simp] theorem nextJob_rrSlot : (nextJob s).rrSlot = s.rrSlot := by
  unfold nextJob; split; · rfl
  split <;> simp
@[simp] theorem nextJob_tick : (nextJob s).tick = s.tick := by
  unfold nextJob; split; · rfl
  split <;> simp
@[simp] theorem nextJob_rx : (nextJob s).rx = s.rx := by
  unfold nextJob; split; · rfl
  split <;> simp
@[simp] theorem nextJob_hold : (nextJob s).hold = s.hold := by
  unfold nextJob; split; · rfl
  split <;> simp
@[simp] theorem nextJob_led : (nextJob s).led = s.led := by
  unfold nextJob; split; · rfl
  split <;> simp
@[simp] theorem nextJob_host : (nextJob s).host = s.host := by
  unfold nextJob; split; · rfl
  split <;> simp
@[simp] theorem nextJob_status : (nextJob s).status = s.status := by
  unfold nextJob; split; · rfl
  split <;> simp
@[simp] theorem nextJob_trace : (nextJob s).trace = s.trace := by
  unfold nextJob; split; · rfl
  split <;> simp
@[simp] theorem nextJob_latch : (nextJob s).latch = s.latch := by
  unfold nextJob; split; · rfl
  split <;> simp
@[simp] theorem nextJob_mem : (nextJob s).mem = s.mem := by
  unfold nextJob; split; · rfl
  split <;> simp
@[simp] theorem nextJob_schedule : (nextJob s).schedule = s.schedule := by
  unfold nextJob; split; · rfl
  split <;> simp

/-! ### engineCycle -/

@[simp] theorem engineCycle_cfg : (engineCycle s).cfg = s.cfg := by
  unfold engineCycle; split; · rfl
  split <;> simp
@[simp] theorem engineCycle_mode : (engineCycle s).mode = s.mode := by
  unfold engineCycle; split; · rfl
  split <;> simp
@[simp] theorem engineCycle_pins : (engineCycle s).pins = s.pins := by
  unfold engineCycle; split; · rfl
  split <;> simp
@[simp] theorem engineCycle_ts : (engineCycle s).ts = s.ts := by
  unfold engineCycle; split; · rfl
  split <;> simp
@[simp] theorem engineCycle_sp : (engineCycle s).sp = s.sp := by
  unfold engineCycle; split; · rfl
  split <;> simp
@[simp] theorem engineCycle_rrSlot : (engineCycle s).rrSlot = s.rrSlot := by
  unfold engineCycle; split; · rfl
  split <;> simp
@[simp] theorem engineCycle_tick : (engineCycle s).tick = s.tick := by
  unfold engineCycle; split; · rfl
  split <;> simp
@[simp] theorem engineCycle_rx : (engineCycle s).rx = s.rx := by
  unfold engineCycle; split; · rfl
  split <;> simp
@[simp] theorem engineCycle_hold : (engineCycle s).hold = s.hold := by
  unfold engineCycle; split; · rfl
  split <;> simp
@[simp] theorem engineCycle_led : (engineCycle s).led = s.led := by
  unfold engineCycle; split; · rfl
  split <;> simp
@[simp] theorem engineCycle_host : (engineCycle s).host = s.host := by
  unfold engineCycle; split; · rfl
  split <;> simp
@[simp] theorem engineCycle_status : (engineCycle s).status = s.status := by
  unfold engineCycle; split; · rfl
  split <;> simp
@[simp] theorem engineCycle_latch : (engineCycle s).latch = s.latch := by
  unfold engineCycle; split; · rfl
  split <;> simp
@[simp] theorem engineCycle_mem : (engineCycle s).mem = s.mem := by
  unfold engineCycle; split; · rfl
  split <;> simp
@[simp] theorem engineCycle_schedule : (engineCycle s).schedule = s.schedule := by
  unfold engineCycle; split; · rfl
  split <;> simp

/-! ### chipSees -/

@[simp] theorem chipSees_cfg (old new : BusPins) (c : Chip) : (chipSees old new s c).cfg = s.cfg := by
  unfold chipSees; split_ifs <;> simp
@[simp] theorem chipSees_mode (old new : BusPins) (c : Chip) : (chipSees old new s c).mode = s.mode := by
  unfold chipSees; split_ifs <;> simp
@[simp] theorem chipSees_bus (old new : BusPins) (c : Chip) : (chipSees old new s c).bus = s.bus := by
  unfold chipSees; split_ifs <;> simp
@[simp] theorem chipSees_pins (old new : BusPins) (c : Chip) : (chipSees old new s c).pins = s.pins := by
  unfold chipSees; split_ifs <;> simp
@[simp] theorem chipSees_be (old new : BusPins) (c : Chip) : (chipSees old new s c).be = s.be := by
  unfold chipSees; split_ifs <;> simp
@[simp] theorem chipSees_shadow (old new : BusPins) (c : Chip) : (chipSees old new s c).shadow = s.shadow := by
  unfold chipSees; split_ifs <;> simp
@[simp] theorem chipSees_ts (old new : BusPins) (c : Chip) : (chipSees old new s c).ts = s.ts := by
  unfold chipSees; split_ifs <;> simp
@[simp] theorem chipSees_sp (old new : BusPins) (c : Chip) : (chipSees old new s c).sp = s.sp := by
  unfold chipSees; split_ifs <;> simp
@[simp] theorem chipSees_rrSlot (old new : BusPins) (c : Chip) : (chipSees old new s c).rrSlot = s.rrSlot := by
  unfold chipSees; split_ifs <;> simp
@[simp] theorem chipSees_tick (old new : BusPins) (c : Chip) : (chipSees old new s c).tick = s.tick := by
  unfold chipSees; split_ifs <;> simp
@[simp] theorem chipSees_rx (old new : BusPins) (c : Chip) : (chipSees old new s c).rx = s.rx := by
  unfold chipSees; split_ifs <;> simp
@[simp] theorem chipSees_hold (old new : BusPins) (c : Chip) : (chipSees old new s c).hold = s.hold := by
  unfold chipSees; split_ifs <;> simp
@[simp] theorem chipSees_led (old new : BusPins) (c : Chip) : (chipSees old new s c).led = s.led := by
  unfold chipSees; split_ifs <;> simp
@[simp] theorem chipSees_host (old new : BusPins) (c : Chip) : (chipSees old new s c).host = s.host := by
  unfold chipSees; split_ifs <;> simp
@[simp] theorem chipSees_status (old new : BusPins) (c : Chip) : (chipSees old new s c).status = s.status := by
  unfold chipSees; split_ifs <;> simp
@[simp] theorem chipSees_tx (old new : BusPins) (c : Chip) : (chipSees old new s c).tx = s.tx := by
  unfold chipSees; split_ifs <;> simp
@[simp] theorem chipSees_trace (old new : BusPins) (c : Chip) : (chipSees old new s c).trace = s.trace := by
  unfold chipSees; split_ifs <;> simp
@[simp] theorem chipSees_schedule (old new : BusPins) (c : Chip) : (chipSees old new s c).schedule = s.schedule := by
  unfold chipSees; split_ifs <;> simp

/-! ### observe -/

@[simp] theorem observe_cfg (old new : BusPins) : (observe old new s).cfg = s.cfg := by
  simp [observe]
@[simp] theorem observe_mode (old new : BusPins) : (observe old new s).mode = s.mode := by
  simp [observe]
@[simp] theorem observe_bus (old new : BusPins) : (observe old new s).bus = s.bus := by
  simp [observe]
@[simp] theorem observe_pins (old new : BusPins) : (observe old new s).pins = s.pins := by
  simp [observe]
@[simp] theorem observe_be (old new : BusPins) : (observe old new s).be = s.be := by
  simp [observe]
@[simp] theorem observe_shadow (old new : BusPins) : (observe old new s).shadow = s.shadow := by
  simp [observe]
@[simp] theorem observe_ts (old new : BusPins) : (observe old new s).ts = s.ts := by
  simp [observe]
@[simp] theorem observe_sp (old new : BusPins) : (observe old new s).sp = s.sp := by
  simp [observe]
@[simp] theorem observe_rrSlot (old new : BusPins) : (observe old new s).rrSlot = s.rrSlot := by
  simp [observe]
@[simp] theorem observe_tick (old new : BusPins) : (observe old new s).tick = s.tick := by
  simp [observe]
@[simp] theorem observe_rx (old new : BusPins) : (observe old new s).rx = s.rx := by
  simp [observe]
@[simp] theorem observe_hold (old new : BusPins) : (observe old new s).hold = s.hold := by
  simp [observe]
@[simp] theorem observe_led (old new : BusPins) : (observe old new s).led = s.led := by
  simp [observe]
@[simp] theorem observe_host (old new : BusPins) : (observe old new s).host = s.host := by
  simp [observe]
@[simp] theorem observe_status (old new : BusPins) : (observe old new s).status = s.status := by
  simp [observe]
@[simp] theorem observe_tx (old new : BusPins) : (observe old new s).tx = s.tx := by
  simp [observe]
@[simp] theorem observe_trace (old new : BusPins) : (observe old new s).trace = s.trace := by
  simp [observe]
@[simp] theorem observe_schedule (old new : BusPins) : (observe old new s).schedule = s.schedule := by
  simp [observe]

/-! ### chipLoses -/

@[simp] theorem chipLoses_cfg (storing : Bool) (c : Chip) : (chipLoses storing c s).cfg = s.cfg := rfl
@[simp] theorem chipLoses_mode (storing : Bool) (c : Chip) : (chipLoses storing c s).mode = s.mode := rfl
@[simp] theorem chipLoses_bus (storing : Bool) (c : Chip) : (chipLoses storing c s).bus = s.bus := rfl
@[simp] theorem chipLoses_pins (storing : Bool) (c : Chip) : (chipLoses storing c s).pins = s.pins := rfl
@[simp] theorem chipLoses_be (storing : Bool) (c : Chip) : (chipLoses storing c s).be = s.be := rfl
@[simp] theorem chipLoses_shadow (storing : Bool) (c : Chip) : (chipLoses storing c s).shadow = s.shadow := rfl
@[simp] theorem chipLoses_ts (storing : Bool) (c : Chip) : (chipLoses storing c s).ts = s.ts := rfl
@[simp] theorem chipLoses_sp (storing : Bool) (c : Chip) : (chipLoses storing c s).sp = s.sp := rfl
@[simp] theorem chipLoses_rrSlot (storing : Bool) (c : Chip) : (chipLoses storing c s).rrSlot = s.rrSlot := rfl
@[simp] theorem chipLoses_tick (storing : Bool) (c : Chip) : (chipLoses storing c s).tick = s.tick := rfl
@[simp] theorem chipLoses_rx (storing : Bool) (c : Chip) : (chipLoses storing c s).rx = s.rx := rfl
@[simp] theorem chipLoses_hold (storing : Bool) (c : Chip) : (chipLoses storing c s).hold = s.hold := rfl
@[simp] theorem chipLoses_led (storing : Bool) (c : Chip) : (chipLoses storing c s).led = s.led := rfl
@[simp] theorem chipLoses_host (storing : Bool) (c : Chip) : (chipLoses storing c s).host = s.host := rfl
@[simp] theorem chipLoses_status (storing : Bool) (c : Chip) : (chipLoses storing c s).status = s.status := rfl
@[simp] theorem chipLoses_tx (storing : Bool) (c : Chip) : (chipLoses storing c s).tx = s.tx := rfl
@[simp] theorem chipLoses_trace (storing : Bool) (c : Chip) : (chipLoses storing c s).trace = s.trace := rfl
@[simp] theorem chipLoses_schedule (storing : Bool) (c : Chip) : (chipLoses storing c s).schedule = s.schedule := rfl

/-! ### observeReset -/

@[simp] theorem observeReset_cfg (be : Engine) : (observeReset be s).cfg = s.cfg := by
  unfold observeReset; split <;> rfl
@[simp] theorem observeReset_mode (be : Engine) : (observeReset be s).mode = s.mode := by
  unfold observeReset; split <;> rfl
@[simp] theorem observeReset_bus (be : Engine) : (observeReset be s).bus = s.bus := by
  unfold observeReset; split <;> rfl
@[simp] theorem observeReset_pins (be : Engine) : (observeReset be s).pins = s.pins := by
  unfold observeReset; split <;> rfl
@[simp] theorem observeReset_be (be : Engine) : (observeReset be s).be = s.be := by
  unfold observeReset; split <;> rfl
@[simp] theorem observeReset_shadow (be : Engine) : (observeReset be s).shadow = s.shadow := by
  unfold observeReset; split <;> rfl
@[simp] theorem observeReset_ts (be : Engine) : (observeReset be s).ts = s.ts := by
  unfold observeReset; split <;> rfl
@[simp] theorem observeReset_sp (be : Engine) : (observeReset be s).sp = s.sp := by
  unfold observeReset; split <;> rfl
@[simp] theorem observeReset_rrSlot (be : Engine) : (observeReset be s).rrSlot = s.rrSlot := by
  unfold observeReset; split <;> rfl
@[simp] theorem observeReset_tick (be : Engine) : (observeReset be s).tick = s.tick := by
  unfold observeReset; split <;> rfl
@[simp] theorem observeReset_rx (be : Engine) : (observeReset be s).rx = s.rx := by
  unfold observeReset; split <;> rfl
@[simp] theorem observeReset_hold (be : Engine) : (observeReset be s).hold = s.hold := by
  unfold observeReset; split <;> rfl
@[simp] theorem observeReset_led (be : Engine) : (observeReset be s).led = s.led := by
  unfold observeReset; split <;> rfl
@[simp] theorem observeReset_host (be : Engine) : (observeReset be s).host = s.host := by
  unfold observeReset; split <;> rfl
@[simp] theorem observeReset_status (be : Engine) : (observeReset be s).status = s.status := by
  unfold observeReset; split <;> rfl
@[simp] theorem observeReset_tx (be : Engine) : (observeReset be s).tx = s.tx := by
  unfold observeReset; split <;> rfl
@[simp] theorem observeReset_trace (be : Engine) : (observeReset be s).trace = s.trace := by
  unfold observeReset; split <;> rfl
@[simp] theorem observeReset_schedule (be : Engine) : (observeReset be s).schedule = s.schedule := by
  unfold observeReset; split <;> rfl

/-! ### holdFrame -/

@[simp] theorem holdFrame_cfg (f : Frame) : (holdFrame f s).cfg = s.cfg := by
  unfold holdFrame; split <;> simp
@[simp] theorem holdFrame_mode (f : Frame) : (holdFrame f s).mode = s.mode := by
  unfold holdFrame; split <;> simp
@[simp] theorem holdFrame_bus (f : Frame) : (holdFrame f s).bus = s.bus := by
  unfold holdFrame; split <;> simp
@[simp] theorem holdFrame_pins (f : Frame) : (holdFrame f s).pins = s.pins := by
  unfold holdFrame; split <;> simp
@[simp] theorem holdFrame_be (f : Frame) : (holdFrame f s).be = s.be := by
  unfold holdFrame; split <;> simp
@[simp] theorem holdFrame_shadow (f : Frame) : (holdFrame f s).shadow = s.shadow := by
  unfold holdFrame; split <;> simp
@[simp] theorem holdFrame_ts (f : Frame) : (holdFrame f s).ts = s.ts := by
  unfold holdFrame; split <;> simp
@[simp] theorem holdFrame_sp (f : Frame) : (holdFrame f s).sp = s.sp := by
  unfold holdFrame; split <;> simp
@[simp] theorem holdFrame_rrSlot (f : Frame) : (holdFrame f s).rrSlot = s.rrSlot := by
  unfold holdFrame; split <;> simp
@[simp] theorem holdFrame_tick (f : Frame) : (holdFrame f s).tick = s.tick := by
  unfold holdFrame; split <;> simp
@[simp] theorem holdFrame_rx (f : Frame) : (holdFrame f s).rx = s.rx := by
  unfold holdFrame; split <;> simp
@[simp] theorem holdFrame_led (f : Frame) : (holdFrame f s).led = s.led := by
  unfold holdFrame; split <;> simp
@[simp] theorem holdFrame_host (f : Frame) : (holdFrame f s).host = s.host := by
  unfold holdFrame; split <;> simp
@[simp] theorem holdFrame_tx (f : Frame) : (holdFrame f s).tx = s.tx := by
  unfold holdFrame; split <;> simp
@[simp] theorem holdFrame_trace (f : Frame) : (holdFrame f s).trace = s.trace := by
  unfold holdFrame; split <;> simp
@[simp] theorem holdFrame_latch (f : Frame) : (holdFrame f s).latch = s.latch := by
  unfold holdFrame; split <;> simp
@[simp] theorem holdFrame_mem (f : Frame) : (holdFrame f s).mem = s.mem := by
  unfold holdFrame; split <;> simp
@[simp] theorem holdFrame_schedule (f : Frame) : (holdFrame f s).schedule = s.schedule := by
  unfold holdFrame; split <;> simp

/-! ### completeFrame -/

@[simp] theorem completeFrame_cfg (f : Frame) : (completeFrame f s).cfg = s.cfg := by
  unfold completeFrame; split <;> simp
@[simp] theorem completeFrame_mode (f : Frame) : (completeFrame f s).mode = s.mode := by
  unfold completeFrame; split <;> simp
@[simp] theorem completeFrame_bus (f : Frame) : (completeFrame f s).bus = s.bus := by
  unfold completeFrame; split <;> simp
@[simp] theorem completeFrame_pins (f : Frame) : (completeFrame f s).pins = s.pins := by
  unfold completeFrame; split <;> simp
@[simp] theorem completeFrame_be (f : Frame) : (completeFrame f s).be = s.be := by
  unfold completeFrame; split <;> simp
@[simp] theorem completeFrame_shadow (f : Frame) : (completeFrame f s).shadow = s.shadow := by
  unfold completeFrame; split <;> simp
@[simp] theorem completeFrame_ts (f : Frame) : (completeFrame f s).ts = s.ts := by
  unfold completeFrame; split <;> simp
@[simp] theorem completeFrame_sp (f : Frame) : (completeFrame f s).sp = s.sp := by
  unfold completeFrame; split <;> simp
@[simp] theorem completeFrame_rrSlot (f : Frame) : (completeFrame f s).rrSlot = s.rrSlot := by
  unfold completeFrame; split <;> simp
@[simp] theorem completeFrame_tick (f : Frame) : (completeFrame f s).tick = s.tick := by
  unfold completeFrame; split <;> simp
@[simp] theorem completeFrame_rx (f : Frame) : (completeFrame f s).rx = s.rx := by
  unfold completeFrame; split <;> simp
@[simp] theorem completeFrame_led (f : Frame) : (completeFrame f s).led = s.led := by
  unfold completeFrame; split <;> simp
@[simp] theorem completeFrame_host (f : Frame) : (completeFrame f s).host = s.host := by
  unfold completeFrame; split <;> simp
@[simp] theorem completeFrame_tx (f : Frame) : (completeFrame f s).tx = s.tx := by
  unfold completeFrame; split <;> simp
@[simp] theorem completeFrame_trace (f : Frame) : (completeFrame f s).trace = s.trace := by
  unfold completeFrame; split <;> simp
@[simp] theorem completeFrame_latch (f : Frame) : (completeFrame f s).latch = s.latch := by
  unfold completeFrame; split <;> simp
@[simp] theorem completeFrame_mem (f : Frame) : (completeFrame f s).mem = s.mem := by
  unfold completeFrame; split <;> simp
@[simp] theorem completeFrame_schedule (f : Frame) : (completeFrame f s).schedule = s.schedule := by
  unfold completeFrame; split <;> simp

/-! ### receiveByte -/

@[simp] theorem receiveByte_cfg (b : Byte) : (receiveByte b s).cfg = s.cfg := by
  unfold receiveByte; split <;> simp
@[simp] theorem receiveByte_mode (b : Byte) : (receiveByte b s).mode = s.mode := by
  unfold receiveByte; split <;> simp
@[simp] theorem receiveByte_bus (b : Byte) : (receiveByte b s).bus = s.bus := by
  unfold receiveByte; split <;> simp
@[simp] theorem receiveByte_pins (b : Byte) : (receiveByte b s).pins = s.pins := by
  unfold receiveByte; split <;> simp
@[simp] theorem receiveByte_be (b : Byte) : (receiveByte b s).be = s.be := by
  unfold receiveByte; split <;> simp
@[simp] theorem receiveByte_shadow (b : Byte) : (receiveByte b s).shadow = s.shadow := by
  unfold receiveByte; split <;> simp
@[simp] theorem receiveByte_ts (b : Byte) : (receiveByte b s).ts = s.ts := by
  unfold receiveByte; split <;> simp
@[simp] theorem receiveByte_sp (b : Byte) : (receiveByte b s).sp = s.sp := by
  unfold receiveByte; split <;> simp
@[simp] theorem receiveByte_rrSlot (b : Byte) : (receiveByte b s).rrSlot = s.rrSlot := by
  unfold receiveByte; split <;> simp
@[simp] theorem receiveByte_tick (b : Byte) : (receiveByte b s).tick = s.tick := by
  unfold receiveByte; split <;> simp
@[simp] theorem receiveByte_led (b : Byte) : (receiveByte b s).led = s.led := by
  unfold receiveByte; split <;> simp
@[simp] theorem receiveByte_host (b : Byte) : (receiveByte b s).host = s.host := by
  unfold receiveByte; split <;> simp
@[simp] theorem receiveByte_tx (b : Byte) : (receiveByte b s).tx = s.tx := by
  unfold receiveByte; split <;> simp
@[simp] theorem receiveByte_trace (b : Byte) : (receiveByte b s).trace = s.trace := by
  unfold receiveByte; split <;> simp
@[simp] theorem receiveByte_latch (b : Byte) : (receiveByte b s).latch = s.latch := by
  unfold receiveByte; split <;> simp
@[simp] theorem receiveByte_mem (b : Byte) : (receiveByte b s).mem = s.mem := by
  unfold receiveByte; split <;> simp
@[simp] theorem receiveByte_schedule (b : Byte) : (receiveByte b s).schedule = s.schedule := by
  unfold receiveByte; split <;> simp

/-! ### dropPartial -/

@[simp] theorem dropPartial_cfg : (dropPartial s).cfg = s.cfg := rfl
@[simp] theorem dropPartial_mode : (dropPartial s).mode = s.mode := rfl
@[simp] theorem dropPartial_bus : (dropPartial s).bus = s.bus := rfl
@[simp] theorem dropPartial_pins : (dropPartial s).pins = s.pins := rfl
@[simp] theorem dropPartial_be : (dropPartial s).be = s.be := rfl
@[simp] theorem dropPartial_shadow : (dropPartial s).shadow = s.shadow := rfl
@[simp] theorem dropPartial_ts : (dropPartial s).ts = s.ts := rfl
@[simp] theorem dropPartial_sp : (dropPartial s).sp = s.sp := rfl
@[simp] theorem dropPartial_rrSlot : (dropPartial s).rrSlot = s.rrSlot := rfl
@[simp] theorem dropPartial_tick : (dropPartial s).tick = s.tick := rfl
@[simp] theorem dropPartial_hold : (dropPartial s).hold = s.hold := rfl
@[simp] theorem dropPartial_led : (dropPartial s).led = s.led := rfl
@[simp] theorem dropPartial_host : (dropPartial s).host = s.host := rfl
@[simp] theorem dropPartial_tx : (dropPartial s).tx = s.tx := rfl
@[simp] theorem dropPartial_trace : (dropPartial s).trace = s.trace := rfl
@[simp] theorem dropPartial_latch : (dropPartial s).latch = s.latch := rfl
@[simp] theorem dropPartial_mem : (dropPartial s).mem = s.mem := rfl
@[simp] theorem dropPartial_schedule : (dropPartial s).schedule = s.schedule := rfl

/-! ### receiveNothing -/

@[simp] theorem receiveNothing_cfg : (receiveNothing s).cfg = s.cfg := by
  unfold receiveNothing; split_ifs <;> simp
@[simp] theorem receiveNothing_mode : (receiveNothing s).mode = s.mode := by
  unfold receiveNothing; split_ifs <;> simp
@[simp] theorem receiveNothing_bus : (receiveNothing s).bus = s.bus := by
  unfold receiveNothing; split_ifs <;> simp
@[simp] theorem receiveNothing_pins : (receiveNothing s).pins = s.pins := by
  unfold receiveNothing; split_ifs <;> simp
@[simp] theorem receiveNothing_be : (receiveNothing s).be = s.be := by
  unfold receiveNothing; split_ifs <;> simp
@[simp] theorem receiveNothing_shadow : (receiveNothing s).shadow = s.shadow := by
  unfold receiveNothing; split_ifs <;> simp
@[simp] theorem receiveNothing_ts : (receiveNothing s).ts = s.ts := by
  unfold receiveNothing; split_ifs <;> simp
@[simp] theorem receiveNothing_sp : (receiveNothing s).sp = s.sp := by
  unfold receiveNothing; split_ifs <;> simp
@[simp] theorem receiveNothing_rrSlot : (receiveNothing s).rrSlot = s.rrSlot := by
  unfold receiveNothing; split_ifs <;> simp
@[simp] theorem receiveNothing_tick : (receiveNothing s).tick = s.tick := by
  unfold receiveNothing; split_ifs <;> simp
@[simp] theorem receiveNothing_hold : (receiveNothing s).hold = s.hold := by
  unfold receiveNothing; split_ifs <;> simp
@[simp] theorem receiveNothing_led : (receiveNothing s).led = s.led := by
  unfold receiveNothing; split_ifs <;> simp
@[simp] theorem receiveNothing_host : (receiveNothing s).host = s.host := by
  unfold receiveNothing; split_ifs <;> simp
@[simp] theorem receiveNothing_tx : (receiveNothing s).tx = s.tx := by
  unfold receiveNothing; split_ifs <;> simp
@[simp] theorem receiveNothing_trace : (receiveNothing s).trace = s.trace := by
  unfold receiveNothing; split_ifs <;> simp
@[simp] theorem receiveNothing_latch : (receiveNothing s).latch = s.latch := by
  unfold receiveNothing; split_ifs <;> simp
@[simp] theorem receiveNothing_mem : (receiveNothing s).mem = s.mem := by
  unfold receiveNothing; split_ifs <;> simp
@[simp] theorem receiveNothing_schedule : (receiveNothing s).schedule = s.schedule := by
  unfold receiveNothing; split_ifs <;> simp

/-! ### receiverCycle -/

@[simp] theorem receiverCycle_cfg (i : PinsIn) : (receiverCycle i s).cfg = s.cfg := by
  unfold receiverCycle; split <;> simp
@[simp] theorem receiverCycle_mode (i : PinsIn) : (receiverCycle i s).mode = s.mode := by
  unfold receiverCycle; split <;> simp
@[simp] theorem receiverCycle_bus (i : PinsIn) : (receiverCycle i s).bus = s.bus := by
  unfold receiverCycle; split <;> simp
@[simp] theorem receiverCycle_pins (i : PinsIn) : (receiverCycle i s).pins = s.pins := by
  unfold receiverCycle; split <;> simp
@[simp] theorem receiverCycle_be (i : PinsIn) : (receiverCycle i s).be = s.be := by
  unfold receiverCycle; split <;> simp
@[simp] theorem receiverCycle_shadow (i : PinsIn) : (receiverCycle i s).shadow = s.shadow := by
  unfold receiverCycle; split <;> simp
@[simp] theorem receiverCycle_ts (i : PinsIn) : (receiverCycle i s).ts = s.ts := by
  unfold receiverCycle; split <;> simp
@[simp] theorem receiverCycle_sp (i : PinsIn) : (receiverCycle i s).sp = s.sp := by
  unfold receiverCycle; split <;> simp
@[simp] theorem receiverCycle_rrSlot (i : PinsIn) : (receiverCycle i s).rrSlot = s.rrSlot := by
  unfold receiverCycle; split <;> simp
@[simp] theorem receiverCycle_tick (i : PinsIn) : (receiverCycle i s).tick = s.tick := by
  unfold receiverCycle; split <;> simp
@[simp] theorem receiverCycle_led (i : PinsIn) : (receiverCycle i s).led = s.led := by
  unfold receiverCycle; split <;> simp
@[simp] theorem receiverCycle_host (i : PinsIn) : (receiverCycle i s).host = s.host := by
  unfold receiverCycle; split <;> simp
@[simp] theorem receiverCycle_tx (i : PinsIn) : (receiverCycle i s).tx = s.tx := by
  unfold receiverCycle; split <;> simp
@[simp] theorem receiverCycle_trace (i : PinsIn) : (receiverCycle i s).trace = s.trace := by
  unfold receiverCycle; split <;> simp
@[simp] theorem receiverCycle_latch (i : PinsIn) : (receiverCycle i s).latch = s.latch := by
  unfold receiverCycle; split <;> simp
@[simp] theorem receiverCycle_mem (i : PinsIn) : (receiverCycle i s).mem = s.mem := by
  unfold receiverCycle; split <;> simp
@[simp] theorem receiverCycle_schedule (i : PinsIn) : (receiverCycle i s).schedule = s.schedule := by
  unfold receiverCycle; split <;> simp

/-! ### raiseTick -/

@[simp] theorem raiseTick_cfg : (raiseTick s).cfg = s.cfg := by
  unfold raiseTick; split <;> simp
@[simp] theorem raiseTick_mode : (raiseTick s).mode = s.mode := by
  unfold raiseTick; split <;> simp
@[simp] theorem raiseTick_bus : (raiseTick s).bus = s.bus := by
  unfold raiseTick; split <;> simp
@[simp] theorem raiseTick_pins : (raiseTick s).pins = s.pins := by
  unfold raiseTick; split <;> simp
@[simp] theorem raiseTick_be : (raiseTick s).be = s.be := by
  unfold raiseTick; split <;> simp
@[simp] theorem raiseTick_shadow : (raiseTick s).shadow = s.shadow := by
  unfold raiseTick; split <;> simp
@[simp] theorem raiseTick_ts : (raiseTick s).ts = s.ts := by
  unfold raiseTick; split <;> simp
@[simp] theorem raiseTick_sp : (raiseTick s).sp = s.sp := by
  unfold raiseTick; split <;> simp
@[simp] theorem raiseTick_rrSlot : (raiseTick s).rrSlot = s.rrSlot := by
  unfold raiseTick; split <;> simp
@[simp] theorem raiseTick_rx : (raiseTick s).rx = s.rx := by
  unfold raiseTick; split <;> simp
@[simp] theorem raiseTick_hold : (raiseTick s).hold = s.hold := by
  unfold raiseTick; split <;> simp
@[simp] theorem raiseTick_led : (raiseTick s).led = s.led := by
  unfold raiseTick; split <;> simp
@[simp] theorem raiseTick_host : (raiseTick s).host = s.host := by
  unfold raiseTick; split <;> simp
@[simp] theorem raiseTick_tx : (raiseTick s).tx = s.tx := by
  unfold raiseTick; split <;> simp
@[simp] theorem raiseTick_trace : (raiseTick s).trace = s.trace := by
  unfold raiseTick; split <;> simp
@[simp] theorem raiseTick_latch : (raiseTick s).latch = s.latch := by
  unfold raiseTick; split <;> simp
@[simp] theorem raiseTick_mem : (raiseTick s).mem = s.mem := by
  unfold raiseTick; split <;> simp
@[simp] theorem raiseTick_schedule : (raiseTick s).schedule = s.schedule := by
  unfold raiseTick; split <;> simp

/-! ### tickCycle -/

@[simp] theorem tickCycle_cfg : (tickCycle s).cfg = s.cfg := by
  unfold tickCycle; split <;> simp
@[simp] theorem tickCycle_mode : (tickCycle s).mode = s.mode := by
  unfold tickCycle; split <;> simp
@[simp] theorem tickCycle_bus : (tickCycle s).bus = s.bus := by
  unfold tickCycle; split <;> simp
@[simp] theorem tickCycle_pins : (tickCycle s).pins = s.pins := by
  unfold tickCycle; split <;> simp
@[simp] theorem tickCycle_be : (tickCycle s).be = s.be := by
  unfold tickCycle; split <;> simp
@[simp] theorem tickCycle_shadow : (tickCycle s).shadow = s.shadow := by
  unfold tickCycle; split <;> simp
@[simp] theorem tickCycle_ts : (tickCycle s).ts = s.ts := by
  unfold tickCycle; split <;> simp
@[simp] theorem tickCycle_sp : (tickCycle s).sp = s.sp := by
  unfold tickCycle; split <;> simp
@[simp] theorem tickCycle_rrSlot : (tickCycle s).rrSlot = s.rrSlot := by
  unfold tickCycle; split <;> simp
@[simp] theorem tickCycle_rx : (tickCycle s).rx = s.rx := by
  unfold tickCycle; split <;> simp
@[simp] theorem tickCycle_hold : (tickCycle s).hold = s.hold := by
  unfold tickCycle; split <;> simp
@[simp] theorem tickCycle_led : (tickCycle s).led = s.led := by
  unfold tickCycle; split <;> simp
@[simp] theorem tickCycle_host : (tickCycle s).host = s.host := by
  unfold tickCycle; split <;> simp
@[simp] theorem tickCycle_tx : (tickCycle s).tx = s.tx := by
  unfold tickCycle; split <;> simp
@[simp] theorem tickCycle_trace : (tickCycle s).trace = s.trace := by
  unfold tickCycle; split <;> simp
@[simp] theorem tickCycle_latch : (tickCycle s).latch = s.latch := by
  unfold tickCycle; split <;> simp
@[simp] theorem tickCycle_mem : (tickCycle s).mem = s.mem := by
  unfold tickCycle; split <;> simp
@[simp] theorem tickCycle_schedule : (tickCycle s).schedule = s.schedule := by
  unfold tickCycle; split <;> simp

/-! ### grantEffects -/

@[simp] theorem grantEffects_cfg (x : Owner) : (grantEffects x s).cfg = s.cfg := by
  unfold grantEffects; split <;> (try split) <;> simp
@[simp] theorem grantEffects_mode (x : Owner) : (grantEffects x s).mode = s.mode := by
  unfold grantEffects; split <;> (try split) <;> simp
@[simp] theorem grantEffects_bus (x : Owner) : (grantEffects x s).bus = s.bus := by
  unfold grantEffects; split <;> (try split) <;> simp
@[simp] theorem grantEffects_pins (x : Owner) : (grantEffects x s).pins = s.pins := by
  unfold grantEffects; split <;> (try split) <;> simp
@[simp] theorem grantEffects_be (x : Owner) : (grantEffects x s).be = s.be := by
  unfold grantEffects; split <;> (try split) <;> simp
@[simp] theorem grantEffects_shadow (x : Owner) : (grantEffects x s).shadow = s.shadow := by
  unfold grantEffects; split <;> (try split) <;> simp
@[simp] theorem grantEffects_ts (x : Owner) : (grantEffects x s).ts = s.ts := by
  unfold grantEffects; split <;> (try split) <;> simp
@[simp] theorem grantEffects_sp (x : Owner) : (grantEffects x s).sp = s.sp := by
  unfold grantEffects; split <;> (try split) <;> simp
@[simp] theorem grantEffects_rrSlot (x : Owner) : (grantEffects x s).rrSlot = s.rrSlot := by
  unfold grantEffects; split <;> (try split) <;> simp
@[simp] theorem grantEffects_rx (x : Owner) : (grantEffects x s).rx = s.rx := by
  unfold grantEffects; split <;> (try split) <;> simp
@[simp] theorem grantEffects_hold (x : Owner) : (grantEffects x s).hold = s.hold := by
  unfold grantEffects; split <;> (try split) <;> simp
@[simp] theorem grantEffects_host (x : Owner) : (grantEffects x s).host = s.host := by
  unfold grantEffects; split <;> (try split) <;> simp
@[simp] theorem grantEffects_status (x : Owner) : (grantEffects x s).status = s.status := by
  unfold grantEffects; split <;> (try split) <;> simp
@[simp] theorem grantEffects_tx (x : Owner) : (grantEffects x s).tx = s.tx := by
  unfold grantEffects; split <;> (try split) <;> simp
@[simp] theorem grantEffects_trace (x : Owner) : (grantEffects x s).trace = s.trace := by
  unfold grantEffects; split <;> (try split) <;> simp
@[simp] theorem grantEffects_latch (x : Owner) : (grantEffects x s).latch = s.latch := by
  unfold grantEffects; split <;> (try split) <;> simp
@[simp] theorem grantEffects_mem (x : Owner) : (grantEffects x s).mem = s.mem := by
  unfold grantEffects; split <;> (try split) <;> simp
@[simp] theorem grantEffects_schedule (x : Owner) : (grantEffects x s).schedule = s.schedule := by
  unfold grantEffects; split <;> (try split) <;> simp

/-! ### openTx -/

@[simp] theorem openTx_cfg (x : Owner) : (openTx x s).cfg = s.cfg := by
  simp [openTx]
@[simp] theorem openTx_mode (x : Owner) : (openTx x s).mode = s.mode := by
  simp [openTx]
@[simp] theorem openTx_bus (x : Owner) : (openTx x s).bus = s.bus := by
  simp [openTx]
@[simp] theorem openTx_pins (x : Owner) : (openTx x s).pins = s.pins := by
  simp [openTx]
@[simp] theorem openTx_be (x : Owner) : (openTx x s).be = s.be := by
  simp [openTx]
@[simp] theorem openTx_shadow (x : Owner) : (openTx x s).shadow = s.shadow := by
  simp [openTx]
@[simp] theorem openTx_ts (x : Owner) : (openTx x s).ts = s.ts := by
  simp [openTx]
@[simp] theorem openTx_sp (x : Owner) : (openTx x s).sp = s.sp := by
  simp [openTx]
@[simp] theorem openTx_rrSlot (x : Owner) : (openTx x s).rrSlot = s.rrSlot := by
  simp [openTx]
@[simp] theorem openTx_rx (x : Owner) : (openTx x s).rx = s.rx := by
  simp [openTx]
@[simp] theorem openTx_hold (x : Owner) : (openTx x s).hold = s.hold := by
  simp [openTx]
@[simp] theorem openTx_host (x : Owner) : (openTx x s).host = s.host := by
  simp [openTx]
@[simp] theorem openTx_status (x : Owner) : (openTx x s).status = s.status := by
  simp [openTx]
@[simp] theorem openTx_trace (x : Owner) : (openTx x s).trace = s.trace := by
  simp [openTx]
@[simp] theorem openTx_latch (x : Owner) : (openTx x s).latch = s.latch := by
  simp [openTx]
@[simp] theorem openTx_mem (x : Owner) : (openTx x s).mem = s.mem := by
  simp [openTx]
@[simp] theorem openTx_schedule (x : Owner) : (openTx x s).schedule = s.schedule := by
  simp [openTx]

/-! ### dropHeld -/

@[simp] theorem dropHeld_cfg : (dropHeld s).cfg = s.cfg := rfl
@[simp] theorem dropHeld_mode : (dropHeld s).mode = s.mode := rfl
@[simp] theorem dropHeld_bus : (dropHeld s).bus = s.bus := rfl
@[simp] theorem dropHeld_pins : (dropHeld s).pins = s.pins := rfl
@[simp] theorem dropHeld_be : (dropHeld s).be = s.be := rfl
@[simp] theorem dropHeld_shadow : (dropHeld s).shadow = s.shadow := rfl
@[simp] theorem dropHeld_ts : (dropHeld s).ts = s.ts := rfl
@[simp] theorem dropHeld_sp : (dropHeld s).sp = s.sp := rfl
@[simp] theorem dropHeld_rrSlot : (dropHeld s).rrSlot = s.rrSlot := rfl
@[simp] theorem dropHeld_tick : (dropHeld s).tick = s.tick := rfl
@[simp] theorem dropHeld_rx : (dropHeld s).rx = s.rx := rfl
@[simp] theorem dropHeld_led : (dropHeld s).led = s.led := rfl
@[simp] theorem dropHeld_host : (dropHeld s).host = s.host := rfl
@[simp] theorem dropHeld_tx : (dropHeld s).tx = s.tx := rfl
@[simp] theorem dropHeld_trace : (dropHeld s).trace = s.trace := rfl
@[simp] theorem dropHeld_latch : (dropHeld s).latch = s.latch := rfl
@[simp] theorem dropHeld_mem : (dropHeld s).mem = s.mem := rfl
@[simp] theorem dropHeld_schedule : (dropHeld s).schedule = s.schedule := rfl

/-! ### frameFinal -/

@[simp] theorem frameFinal_cfg (c : Chip) (f : Frame) : (frameFinal c f s).cfg = s.cfg := by
  simp [frameFinal, frameSlots]
@[simp] theorem frameFinal_mode (c : Chip) (f : Frame) : (frameFinal c f s).mode = s.mode := by
  simp [frameFinal, frameSlots]
@[simp] theorem frameFinal_bus (c : Chip) (f : Frame) : (frameFinal c f s).bus = s.bus := by
  simp [frameFinal, frameSlots]
@[simp] theorem frameFinal_pins (c : Chip) (f : Frame) : (frameFinal c f s).pins = s.pins := by
  simp [frameFinal, frameSlots]
@[simp] theorem frameFinal_be (c : Chip) (f : Frame) : (frameFinal c f s).be = s.be := by
  simp [frameFinal, frameSlots]
@[simp] theorem frameFinal_shadow (c : Chip) (f : Frame) : (frameFinal c f s).shadow = s.shadow := by
  simp [frameFinal, frameSlots]
@[simp] theorem frameFinal_rrSlot (c : Chip) (f : Frame) : (frameFinal c f s).rrSlot = s.rrSlot := by
  simp [frameFinal, frameSlots]
@[simp] theorem frameFinal_tick (c : Chip) (f : Frame) : (frameFinal c f s).tick = s.tick := by
  simp [frameFinal, frameSlots]
@[simp] theorem frameFinal_rx (c : Chip) (f : Frame) : (frameFinal c f s).rx = s.rx := by
  simp [frameFinal, frameSlots]
@[simp] theorem frameFinal_led (c : Chip) (f : Frame) : (frameFinal c f s).led = s.led := by
  simp [frameFinal, frameSlots]
@[simp] theorem frameFinal_host (c : Chip) (f : Frame) : (frameFinal c f s).host = s.host := by
  simp [frameFinal, frameSlots]
@[simp] theorem frameFinal_status (c : Chip) (f : Frame) : (frameFinal c f s).status = s.status := by
  simp [frameFinal, frameSlots]
@[simp] theorem frameFinal_tx (c : Chip) (f : Frame) : (frameFinal c f s).tx = s.tx := by
  simp [frameFinal, frameSlots]
@[simp] theorem frameFinal_trace (c : Chip) (f : Frame) : (frameFinal c f s).trace = s.trace := by
  simp [frameFinal, frameSlots]
@[simp] theorem frameFinal_latch (c : Chip) (f : Frame) : (frameFinal c f s).latch = s.latch := by
  simp [frameFinal, frameSlots]
@[simp] theorem frameFinal_mem (c : Chip) (f : Frame) : (frameFinal c f s).mem = s.mem := by
  simp [frameFinal, frameSlots]
@[simp] theorem frameFinal_schedule (c : Chip) (f : Frame) : (frameFinal c f s).schedule = s.schedule := by
  simp [frameFinal, frameSlots]

/-! ### finalEffects -/

@[simp] theorem finalEffects_cfg (x : Owner) : (finalEffects x s).cfg = s.cfg := by
  unfold finalEffects; split <;> (try split) <;> simp
@[simp] theorem finalEffects_mode (x : Owner) : (finalEffects x s).mode = s.mode := by
  unfold finalEffects; split <;> (try split) <;> simp
@[simp] theorem finalEffects_bus (x : Owner) : (finalEffects x s).bus = s.bus := by
  unfold finalEffects; split <;> (try split) <;> simp
@[simp] theorem finalEffects_pins (x : Owner) : (finalEffects x s).pins = s.pins := by
  unfold finalEffects; split <;> (try split) <;> simp
@[simp] theorem finalEffects_be (x : Owner) : (finalEffects x s).be = s.be := by
  unfold finalEffects; split <;> (try split) <;> simp
@[simp] theorem finalEffects_shadow (x : Owner) : (finalEffects x s).shadow = s.shadow := by
  unfold finalEffects; split <;> (try split) <;> simp
@[simp] theorem finalEffects_tick (x : Owner) : (finalEffects x s).tick = s.tick := by
  unfold finalEffects; split <;> (try split) <;> simp
@[simp] theorem finalEffects_rx (x : Owner) : (finalEffects x s).rx = s.rx := by
  unfold finalEffects; split <;> (try split) <;> simp
@[simp] theorem finalEffects_led (x : Owner) : (finalEffects x s).led = s.led := by
  unfold finalEffects; split <;> (try split) <;> simp
@[simp] theorem finalEffects_tx (x : Owner) : (finalEffects x s).tx = s.tx := by
  unfold finalEffects; split <;> (try split) <;> simp
@[simp] theorem finalEffects_trace (x : Owner) : (finalEffects x s).trace = s.trace := by
  unfold finalEffects; split <;> (try split) <;> simp
@[simp] theorem finalEffects_latch (x : Owner) : (finalEffects x s).latch = s.latch := by
  unfold finalEffects; split <;> (try split) <;> simp
@[simp] theorem finalEffects_mem (x : Owner) : (finalEffects x s).mem = s.mem := by
  unfold finalEffects; split <;> (try split) <;> simp
@[simp] theorem finalEffects_schedule (x : Owner) : (finalEffects x s).schedule = s.schedule := by
  unfold finalEffects; split <;> (try split) <;> simp

/-! ### txCycle -/

@[simp] theorem txCycle_cfg : (txCycle s).cfg = s.cfg := by
  unfold txCycle; split <;> split <;> simp
@[simp] theorem txCycle_mode : (txCycle s).mode = s.mode := by
  unfold txCycle; split <;> split <;> simp
@[simp] theorem txCycle_pins : (txCycle s).pins = s.pins := by
  unfold txCycle; split <;> split <;> simp
@[simp] theorem txCycle_rx : (txCycle s).rx = s.rx := by
  unfold txCycle; split <;> split <;> simp
@[simp] theorem txCycle_latch : (txCycle s).latch = s.latch := by
  unfold txCycle; split <;> split <;> simp
@[simp] theorem txCycle_mem : (txCycle s).mem = s.mem := by
  unfold txCycle; split <;> split <;> simp
@[simp] theorem txCycle_schedule : (txCycle s).schedule = s.schedule := by
  unfold txCycle; split <;> split <;> simp

/-! ### acceptHost -/

@[simp] theorem acceptHost_cfg (i : PinsIn) (p : Bool) : (acceptHost i p s).cfg = s.cfg := by
  unfold acceptHost; split <;> simp
@[simp] theorem acceptHost_mode (i : PinsIn) (p : Bool) : (acceptHost i p s).mode = s.mode := by
  unfold acceptHost; split <;> simp
@[simp] theorem acceptHost_bus (i : PinsIn) (p : Bool) : (acceptHost i p s).bus = s.bus := by
  unfold acceptHost; split <;> simp
@[simp] theorem acceptHost_pins (i : PinsIn) (p : Bool) : (acceptHost i p s).pins = s.pins := by
  unfold acceptHost; split <;> simp
@[simp] theorem acceptHost_be (i : PinsIn) (p : Bool) : (acceptHost i p s).be = s.be := by
  unfold acceptHost; split <;> simp
@[simp] theorem acceptHost_shadow (i : PinsIn) (p : Bool) : (acceptHost i p s).shadow = s.shadow := by
  unfold acceptHost; split <;> simp
@[simp] theorem acceptHost_ts (i : PinsIn) (p : Bool) : (acceptHost i p s).ts = s.ts := by
  unfold acceptHost; split <;> simp
@[simp] theorem acceptHost_sp (i : PinsIn) (p : Bool) : (acceptHost i p s).sp = s.sp := by
  unfold acceptHost; split <;> simp
@[simp] theorem acceptHost_rrSlot (i : PinsIn) (p : Bool) : (acceptHost i p s).rrSlot = s.rrSlot := by
  unfold acceptHost; split <;> simp
@[simp] theorem acceptHost_tick (i : PinsIn) (p : Bool) : (acceptHost i p s).tick = s.tick := by
  unfold acceptHost; split <;> simp
@[simp] theorem acceptHost_rx (i : PinsIn) (p : Bool) : (acceptHost i p s).rx = s.rx := by
  unfold acceptHost; split <;> simp
@[simp] theorem acceptHost_hold (i : PinsIn) (p : Bool) : (acceptHost i p s).hold = s.hold := by
  unfold acceptHost; split <;> simp
@[simp] theorem acceptHost_led (i : PinsIn) (p : Bool) : (acceptHost i p s).led = s.led := by
  unfold acceptHost; split <;> simp
@[simp] theorem acceptHost_status (i : PinsIn) (p : Bool) : (acceptHost i p s).status = s.status := by
  unfold acceptHost; split <;> simp
@[simp] theorem acceptHost_tx (i : PinsIn) (p : Bool) : (acceptHost i p s).tx = s.tx := by
  unfold acceptHost; split <;> simp
@[simp] theorem acceptHost_trace (i : PinsIn) (p : Bool) : (acceptHost i p s).trace = s.trace := by
  unfold acceptHost; split <;> simp
@[simp] theorem acceptHost_latch (i : PinsIn) (p : Bool) : (acceptHost i p s).latch = s.latch := by
  unfold acceptHost; split <;> simp
@[simp] theorem acceptHost_mem (i : PinsIn) (p : Bool) : (acceptHost i p s).mem = s.mem := by
  unfold acceptHost; split <;> simp
@[simp] theorem acceptHost_schedule (i : PinsIn) (p : Bool) : (acceptHost i p s).schedule = s.schedule := by
  unfold acceptHost; split <;> simp

/-! ### What each agent can do -/

theorem cyclesOfNs_pos (f ns : Nat) : 1 ≤ cyclesOfNs f ns := Nat.le_max_left _ _

/-- Every phase is at least one cycle long (R7, R127). -/
theorem phaseLength_pos (cfg : Config) {p : BePhase} (h : p ≠ .idle) : 1 ≤ phaseLength cfg p := by
  cases p <;> first | exact absurd rfl h | exact cyclesOfNs_pos _ _

/-- The engine stays in its phase, goes to the next one, or takes the next job (R127). -/
theorem engineCycle_cases :
    (s.be.beState ≠ .idle ∧ 1 < s.be.beCnt ∧ engineCycle s = { s with be := { s.be with beCnt := s.be.beCnt - 1 } }) ∨
    (∃ p, ¬ (s.be.beState ≠ .idle ∧ 1 < s.be.beCnt) ∧ nextPhase s.be.beJob.kind s.be.beState = some p ∧
      engineCycle s = enterPhase p (endPhase s)) ∨
    (¬ (s.be.beState ≠ .idle ∧ 1 < s.be.beCnt) ∧ nextPhase s.be.beJob.kind s.be.beState = none ∧
      engineCycle s = nextJob (endPhase s)) := by
  unfold engineCycle
  split
  · next h => exact .inl ⟨h.1, h.2, rfl⟩
  · next h =>
    split
    · next p hp => exact .inr (.inl ⟨p, h, hp, rfl⟩)
    · next hp => exact .inr (.inr ⟨h, hp, rfl⟩)

/-- No owner, no job; a job waiting, it starts; none left, the engine stops (R127). -/
theorem nextJob_cases :
    (s.tx.owner = .nobody ∧ nextJob s = { s with be := { s.be with beState := .idle } }) ∨
    (∃ j, s.tx.owner ≠ .nobody ∧ s.tx.txJobs[nextIdx s]? = some j ∧
      nextJob s = startJob j { s with tx := { s.tx with txIdx := nextIdx s } }) ∨
    (s.tx.owner ≠ .nobody ∧ s.tx.txJobs[nextIdx s]? = none ∧
      nextJob s = stopEngine { s with tx := { s.tx with txIdx := nextIdx s } }) := by
  unfold nextJob
  split
  · next h => exact .inl ⟨h, rfl⟩
  · next h =>
    split
    · next j hj => exact .inr (.inl ⟨j, h, hj, rfl⟩)
    · next hj => exact .inr (.inr ⟨h, hj, rfl⟩)

/-- A cycle of the transaction is one with no request, a grant cycle, the final cycle, or a cycle of its jobs (R285). -/
theorem txCycle_cases :
    (s.tx.owner = .nobody ∧ arbitrate s = .nobody ∧ txCycle s = engineCycle s) ∨
    (s.tx.owner = .nobody ∧ arbitrate s ≠ .nobody ∧ txCycle s = engineCycle (openTx (arbitrate s) s)) ∨
    (s.tx.owner ≠ .nobody ∧ s.tx.txPhase = .final ∧ txCycle s = releaseBus (finalEffects s.tx.owner s)) ∨
    (s.tx.owner ≠ .nobody ∧ s.tx.txPhase ≠ .final ∧ txCycle s = engineCycle s) := by
  cases ho : s.tx.owner
  case nobody => cases ha : arbitrate s <;> simp [txCycle, ho, ha]
  all_goals cases hp : s.tx.txPhase <;> simp [txCycle, ho, hp]

/-- The tick is taken exactly when one is pending and the bus is free (R280, R285). -/
theorem arbitrate_eq_sched : arbitrate s = .sched ↔ s.tx.owner = .nobody ∧ s.tick.tickPending = true := by
  unfold arbitrate foreground
  split
  · next h => simp [h]
  · next h =>
    have h' : s.tx.owner = .nobody := by simpa using h
    cases hp : s.tick.tickPending <;> simp [h']
    cases s.cfg.arbFg <;> cases s.hold.holdFull <;> cases s.host.hostPending <;> simp

/-- A grant needs a free bus (R285). -/
theorem owner_of_arbitrate (h : arbitrate s ≠ .nobody) : s.tx.owner = .nobody := by
  by_contra ho
  exact h (by simp [arbitrate, ho])

@[simp] theorem cycles_nil : cycles [] s = s := rfl
@[simp] theorem cycles_cons (i : PinsIn) (is : List PinsIn) : cycles (i :: is) s = cycles is (cycle i s) := rfl
theorem cycles_append (is js : List PinsIn) : cycles (is ++ js) s = cycles js (cycles is s) := by
  simp [cycles, List.foldl_append]

/-- What an operation can do: a host command's plan, a frame, a discarded frame, a slot, or an activation. -/
theorem exec_cases (i : Instr) :
    (∃ p, exec i s = .next (hostTransaction p s)) ∨
    (∃ c f, i = .frame f ∧ frameChip f = some c ∧ exec i s = .next (frameTransaction c f s)) ∨
    (∃ f, i = .frame f ∧ frameChip f = none ∧ exec i s = .next (raiseDiscard .rxBadChip (clearDone s))) ∨
    (∃ c v p n, i = .slot1 c v p n ∧ exec i s = .next (slot1Apply c v p n s)) ∨
    (∃ c v p n id, i = .slot2 c v p n id ∧ exec i s = .next (slot2Apply c v p n id s)) ∨
    (∃ js, (js = directJobs s ∨ js = rrJobs s) ∧ exec i s = .next (schedTransaction js s)) := by
  cases i
  case frame f =>
    cases hf : frameChip f
    case none => exact .inr (.inr (.inl ⟨f, rfl, hf, by simp [exec, execFrame, hf]⟩))
    case some c => exact .inr (.inl ⟨c, f, rfl, hf, by simp [exec, execFrame, hf]⟩)
  case slot1 c v p n => exact .inr (.inr (.inr (.inl ⟨c, v, p, n, rfl, rfl⟩)))
  case slot2 c v p n id => exact .inr (.inr (.inr (.inr (.inl ⟨c, v, p, n, id, rfl, rfl⟩))))
  case tickDirect => exact .inr (.inr (.inr (.inr (.inr ⟨_, .inl rfl, rfl⟩))))
  case tickRr => exact .inr (.inr (.inr (.inr (.inr ⟨_, .inr rfl, rfl⟩))))
  all_goals exact .inl ⟨_, rfl⟩

/-- What a step that answers a next state was: a clock cycle, an event, or a transaction, as the schedule said. -/
theorem step_cases {s t : State} (h : step s = .next t) :
    (s.schedule = [] ∧ t = cycle .idle s) ∨
    (∃ i rest, s.schedule = .cycle i :: rest ∧ t = cycle i { s with schedule := rest }) ∨
    (∃ e rest, s.schedule = .event e :: rest ∧ event e { s with schedule := rest } = .next t) ∨
    (∃ rest, s.schedule = .transaction :: rest ∧ transaction { s with schedule := rest } = .next t) := by
  unfold step at h
  split at h
  · next hs => exact .inl ⟨hs, by simpa using h.symm⟩
  · next i rest hs => exact .inr (.inl ⟨i, rest, hs, by simpa using h.symm⟩)
  · next e rest hs => exact .inr (.inr (.inl ⟨e, rest, hs, h⟩))
  · next rest hs => exact .inr (.inr (.inr ⟨rest, hs, h⟩))

/-- What an event that is allowed does (R291). -/
theorem event_cases {e : Event} {s t : State} (h : event e s = .next t) :
    (∃ b, e = .byte b ∧ t = receiveByte b (clearDone s)) ∨
    (e = .timeout ∧ s.rx.rxCount ≠ 0 ∧ t = dropPartial (clearDone s)) ∨
    (e = .tick ∧ t = raiseTick (clearDone s)) ∨
    (∃ w, e = .offer w ∧ s.host.hostPending = false ∧ t = takeOffer w (clearDone s)) ∨
    (∃ x, e = .grant x ∧ x ≠ .nobody ∧ arbitrate s = x ∧ s.be.beState = .idle ∧ t = openTx x (clearDone s)) ∨
    (e = .complete ∧ s.tx.owner ≠ .nobody ∧ s.be.beState = .idle ∧ t = completeTx (clearDone s)) := by
  cases e <;> simp only [event] at h
  case byte b => exact .inl ⟨b, rfl, by simpa using h.symm⟩
  case timeout =>
    split at h
    · simp at h
    · next hc => exact .inr (.inl ⟨rfl, hc, by simpa using h.symm⟩)
  case tick => exact .inr (.inr (.inl ⟨rfl, by simpa using h.symm⟩))
  case offer w =>
    split at h
    · simp at h
    · next hc => exact .inr (.inr (.inr (.inl ⟨w, rfl, by simpa using hc, by simpa using h.symm⟩)))
  case grant x =>
    split at h
    · next hc => exact .inr (.inr (.inr (.inr (.inl ⟨x, rfl, hc.1, hc.2.1, hc.2.2, by simpa using h.symm⟩))))
    · simp at h
  case complete =>
    split at h
    · next hc => exact .inr (.inr (.inr (.inr (.inr ⟨rfl, hc.1, hc.2, by simpa using h.symm⟩))))
    · simp at h

end Sys2Proof.Machine
end

