-- ==== Sys2Proof/Laws/Encoding.lean ====
section
/-! SUPPORT. The fields of an assembled host word, the word reassembled from its fields, and the fields of the slot frames. -/

namespace Sys2Proof

section
variable (op : BitVec 4) (chip : BitVec 2) (reg : RegAddr) (data aux : Byte) (low : BitVec 28)

@[simp] theorem opOf_hostWord : opOf (hostWord op chip reg data aux) = op := by
  unfold opOf hostWord
  ext i hi
  simp only [BitVec.getElem_extractLsb', BitVec.getLsbD_append]
  interval_cases i <;> simp

@[simp] theorem chipOf_hostWord : chipOf (hostWord op chip reg data aux) = chip := by
  unfold chipOf hostWord
  ext i hi
  simp only [BitVec.getElem_extractLsb', BitVec.getLsbD_append]
  interval_cases i <;> simp

@[simp] theorem regOf_hostWord : regOf (hostWord op chip reg data aux) = reg := by
  unfold regOf hostWord
  ext i hi
  simp only [BitVec.getElem_extractLsb', BitVec.getLsbD_append]
  interval_cases i <;> simp

@[simp] theorem dataOf_hostWord : dataOf (hostWord op chip reg data aux) = data := by
  unfold dataOf hostWord
  ext i hi
  simp only [BitVec.getElem_extractLsb', BitVec.getLsbD_append]
  interval_cases i <;> simp

@[simp] theorem auxOf_hostWord : auxOf (hostWord op chip reg data aux) = aux := by
  unfold auxOf hostWord
  ext i hi
  simp only [BitVec.getElem_extractLsb', BitVec.getLsbD_append]
  interval_cases i <;> simp

@[simp] theorem opOf_reservedWord : opOf (reservedWord op low) = op := by
  unfold opOf reservedWord
  ext i hi
  simp only [BitVec.getElem_extractLsb', BitVec.getLsbD_append]
  interval_cases i <;> simp

@[simp] theorem lowOf_reservedWord : lowOf (reservedWord op low) = low := by
  unfold lowOf reservedWord
  ext i hi
  simp only [BitVec.getElem_extractLsb', BitVec.getLsbD_append]
  have : i < 28 := hi
  simp [this]

end

/-- A word is its five fields and its RSVD field (R95). -/
theorem hostWord_of_fields (w : HostWord) (h : w.extractLsb' 16 5 = 0#5) :
    hostWord (opOf w) (chipOf w) (regOf w) (dataOf w) (auxOf w) = w := by
  unfold hostWord opOf chipOf regOf dataOf auxOf
  rw [← h]
  ext i hi
  simp only [BitVec.getElem_append, BitVec.getElem_extractLsb']
  interval_cases i <;> simp [BitVec.getLsbD_eq_getElem]

/-- A word is its opcode and the 28 bits below it. -/
theorem reservedWord_of_fields (w : HostWord) : reservedWord (opOf w) (lowOf w) = w := by
  unfold reservedWord opOf lowOf
  ext i hi
  simp only [BitVec.getElem_append, BitVec.getElem_extractLsb']
  interval_cases i <;> simp [BitVec.getLsbD_eq_getElem]

/-- The first 17 bytes of a frame's own list are the frame (R94). -/
theorem frameOfBytes_toList (f : Frame) : frameOfBytes f.toList = some (f, []) := by
  rcases f with ⟨⟨l⟩, h⟩
  rcases l with _ | ⟨b0, _ | ⟨b1, _ | ⟨b2, _ | ⟨b3, _ | ⟨b4, _ | ⟨b5, _ | ⟨b6, _ | ⟨b7, _ | ⟨b8, _ | ⟨b9, _ | ⟨b10,
    _ | ⟨b11, _ | ⟨b12, _ | ⟨b13, _ | ⟨b14, _ | ⟨b15, _ | ⟨b16, _ | ⟨b17, l⟩⟩⟩⟩⟩⟩⟩⟩⟩⟩⟩⟩⟩⟩⟩⟩⟩⟩
  all_goals first
    | rfl
    | (simp only [List.size_toArray, List.length_cons, List.length_nil] at h; omega)

theorem frameChip_eq_some {f : Frame} {c : Chip} : frameChip f = some c ↔ f[0].toNat = c.val := by
  unfold frameChip
  split
  · rename_i h
    constructor
    · intro hc
      cases hc
      rfl
    · intro hc
      exact congrArg some (Fin.ext hc)
  · rename_i h
    constructor
    · intro hc
      cases hc
    · intro hc
      have := c.isLt
      omega

theorem frameChip_eq_none {f : Frame} : frameChip f = none ↔ 3 ≤ f[0].toNat := by
  unfold frameChip
  split
  · rename_i h
    simp only [reduceCtorEq, false_iff]
    omega
  · rename_i h
    simp only [true_iff]
    omega

theorem frameOk_iff {f : Frame} : frameOk f = true ↔ frameChip f ≠ none := by
  rw [Ne, frameChip_eq_none, frameOk, decide_eq_true_iff]
  omega

theorem decode_frame (f : Frame) : decode (.bytes f.toList) = decodeFrame f := by
  simp only [decode, decodeSerial, frameOfBytes_toList]
  cases decodeFrame f <;> rfl

end Sys2Proof
end

