-- ==== Sys2Proof/Laws/PerInstr.lean ====
section
/-! SUPPORT. Statements made per operation, about it as syntax: its encoding has the shape its row of the opcode table
says. -/

namespace Sys2Proof.Laws

/-- `OP` of a host command (R96, R143); no other operation has one. -/
def opNumber : Instr → Option (BitVec 4)
  | .nop => some 0x0
  | .select _ => some 0x1
  | .write _ _ _ => some 0x2
  | .writeFast _ _ _ => some 0x3
  | .rmw _ _ _ _ => some 0x4
  | .readShadow _ _ => some 0x5
  | .readStatus => some 0x6
  | .reservedOp7 _ => some 0x7
  | .reservedOp8 _ => some 0x8
  | .reservedOp9 _ => some 0x9
  | .reservedOpA _ => some 0xA
  | .reservedOpB _ => some 0xB
  | .reservedOpC _ => some 0xC
  | .reservedOpD _ => some 0xD
  | .reservedOpE _ => some 0xE
  | .reservedOpF _ => some 0xF
  | .frame _ => none
  | .slot1 _ _ _ _ => none
  | .slot2 _ _ _ _ _ => none
  | .tickDirect => none
  | .tickRr => none

/-- A host command is a word with its opcode; a frame is 17 bytes; a slot names its chip in byte 0; a tick is its mode. -/
def EncodedShape.Statement (i : Instr) : Prop :=
  match encode i with
  | .word w => opNumber i = some (opOf w)
  | .bytes bs => opNumber i = none ∧ bs.length = 17
  | .slot1 f => ∃ c v p n, i = .slot1 c v p n ∧ f[0].toNat = c.val
  | .slot2 f => ∃ c v p n d, i = .slot2 c v p n d ∧ f[0].toNat = c.val
  | .tick m => i = decodeTick m

namespace EncodedShape

theorem nop : Statement .nop := by simp [Statement, encode, opNumber]
theorem select (chip : BitVec 2) : Statement (.select chip) := by simp [Statement, encode, opNumber]
theorem write (chip : BitVec 2) (reg : RegAddr) (data : Byte) : Statement (.write chip reg data) := by
  simp [Statement, encode, opNumber]
theorem writeFast (chip : BitVec 2) (reg : RegAddr) (data : Byte) : Statement (.writeFast chip reg data) := by
  simp [Statement, encode, opNumber]
theorem rmw (chip : BitVec 2) (reg : RegAddr) (orMask andMask : Byte) : Statement (.rmw chip reg orMask andMask) := by
  simp [Statement, encode, opNumber]
theorem readShadow (chip : BitVec 2) (reg : RegAddr) : Statement (.readShadow chip reg) := by
  simp [Statement, encode, opNumber]
theorem readStatus : Statement .readStatus := by simp [Statement, encode, opNumber]
theorem reservedOp7 (low : BitVec 28) : Statement (.reservedOp7 low) := by simp [Statement, encode, opNumber]
theorem reservedOp8 (low : BitVec 28) : Statement (.reservedOp8 low) := by simp [Statement, encode, opNumber]
theorem reservedOp9 (low : BitVec 28) : Statement (.reservedOp9 low) := by simp [Statement, encode, opNumber]
theorem reservedOpA (low : BitVec 28) : Statement (.reservedOpA low) := by simp [Statement, encode, opNumber]
theorem reservedOpB (low : BitVec 28) : Statement (.reservedOpB low) := by simp [Statement, encode, opNumber]
theorem reservedOpC (low : BitVec 28) : Statement (.reservedOpC low) := by simp [Statement, encode, opNumber]
theorem reservedOpD (low : BitVec 28) : Statement (.reservedOpD low) := by simp [Statement, encode, opNumber]
theorem reservedOpE (low : BitVec 28) : Statement (.reservedOpE low) := by simp [Statement, encode, opNumber]
theorem reservedOpF (low : BitVec 28) : Statement (.reservedOpF low) := by simp [Statement, encode, opNumber]
theorem frame (bytes : Frame) : Statement (.frame bytes) := by simp [Statement, encode, opNumber]
theorem slot1 (chip : Chip) (voice : BitVec 2) (presc : BitVec 3) (count : Byte) :
    Statement (.slot1 chip voice presc count) :=
  ⟨chip, voice, presc, count, rfl, by revert chip; exact (by decide : ∀ c : Chip, (BitVec.ofNat 8 c.val).toNat = c.val)⟩
theorem slot2 (chip : Chip) (voice : BitVec 2) (presc : BitVec 3) (count : Byte) (id : BitVec 5) :
    Statement (.slot2 chip voice presc count id) :=
  ⟨chip, voice, presc, count, id, rfl,
    by revert chip; exact (by decide : ∀ c : Chip, (BitVec.ofNat 8 c.val).toNat = c.val)⟩
theorem tickDirect : Statement .tickDirect := rfl
theorem tickRr : Statement .tickRr := rfl

end EncodedShape

end Sys2Proof.Laws
end

