-- ==== Sys2Proof/Tests/Slice0.lean ====
section
/-! SUPPORT. Tests: ill-formed terms are refused, words written out from the spec's encodings decode as it says, single steps give
the results of spec/95_test_vectors.md (named in each docstring), and every hypothesis of a statement is met by some state. -/

namespace Sys2Proof.Tests

open Sys2Proof Sys2Proof.Machine

/-- The next state of an outcome, when it has one. -/
def next? : Host.Outcome State Fault Refusal → Option State
  | .next t => some t
  | .fault _ => none
  | .refused _ => none

/-- One field of the next state. -/
def after {α : Type} (o : Host.Outcome State Fault Refusal) (f : State → α) : Option α := (next? o).map f

/-- What the host sees: done, code, data; and STATUS. -/
def hostView (s : State) : Bool × BitVec 3 × Byte × BitVec 8 := (s.host.hDoneO, s.host.hErrO, s.host.hRdataO, s.status)

/-- The reset state with a host word placed for the next step. -/
def withWord (w : Nat) : State := State.reset.withFetchWord 32 w

/-! ### WellFormed: each check refuses an ill-formed term (R97, R85, log 14) -/

theorem test_wf_select_chip3 : (Instr.select 3).wf = false := by decide
theorem test_wf_write_chip3 : (Instr.write 3 0 0).wf = false := by decide
theorem test_wf_writeFast_chip3 : (Instr.writeFast 3 0 0).wf = false := by decide
theorem test_wf_rmw_chip3 : (Instr.rmw 3 7 0 0).wf = false := by decide
theorem test_wf_rmw_noshadow : (Instr.rmw 0 6 0 0).wf = false := by decide
theorem test_wf_readShadow_chip3 : (Instr.readShadow 3 7).wf = false := by decide
theorem test_wf_readShadow_noshadow : (Instr.readShadow 0 16).wf = false := by decide
theorem test_wf_frame_chip3 : (Instr.frame #v[3, 0, 0, 0, 0, 0, 0, 0, 0, 0, 0, 0, 0, 0, 0, 0, 0]).wf = false := by decide
theorem test_wf_slot2_idle_id : (Instr.slot2 0 0 0 0 1).wf = false := by decide
theorem test_wf_accepts : (Instr.rmw 2 15 0 0).wf = true ∧ (Instr.write 2 31 0).wf = true ∧ (Instr.slot2 0 1 0 0 31).wf = true := by
  decide

/-! ### Decode: words written out from R95, R96, R81, R86, R87 -/

theorem test_decode_nop : decodeHost 0b0000_00_00000_00000_00000000_00000000 = .ok .nop := by decide
theorem test_decode_select : decodeHost 0b0001_01_00000_00000_00000000_00000000 = .ok (.select 1) := by decide
theorem test_decode_write : decodeHost 0b0010_10_11111_00000_10101011_00000000 = .ok (.write 2 31 0xAB) := by decide
theorem test_decode_writeFast : decodeHost 0b0011_00_01000_00000_00000101_00000000 = .ok (.writeFast 0 8 5) := by decide
theorem test_decode_rmw : decodeHost 0b0100_00_00111_00000_00000111_11111000 = .ok (.rmw 0 7 0x07 0xF8) := by decide
theorem test_decode_readShadow : decodeHost 0b0101_00_01110_00000_00000000_00000000 = .ok (.readShadow 0 14) := by decide
theorem test_decode_readStatus : decodeHost 0b0110_00_00000_00000_00000000_00000000 = .ok .readStatus := by decide
theorem test_decode_reserved :
    decodeHost 0b0111_1100000000000000000000000001 = .ok (.reservedOp7 0xC000001) ∧
    decodeHost 0x80000000 = .ok (.reservedOp8 0) ∧ decodeHost 0x90000000 = .ok (.reservedOp9 0) ∧
    decodeHost 0xA0000000 = .ok (.reservedOpA 0) ∧ decodeHost 0xB0000000 = .ok (.reservedOpB 0) ∧
    decodeHost 0xC0000000 = .ok (.reservedOpC 0) ∧ decodeHost 0xD0000000 = .ok (.reservedOpD 0) ∧
    decodeHost 0xE0000000 = .ok (.reservedOpE 0) ∧ decodeHost 0xFFFFFFFF = .ok (.reservedOpF 0xFFFFFFF) := by decide
theorem test_decode_reserved_bits :
    decodeHost 0x00000001 = .error .reservedBits ∧ decodeHost 0x12000000 = .error .reservedBits ∧
    decodeHost 0x20E13800 = .error .reservedBits ∧ decodeHost 0x20E03801 = .error .reservedBits ∧
    decodeHost 0x40E1FF00 = .error .reservedBits ∧ decodeHost 0x50E00001 = .error .reservedBits ∧
    decodeHost 0x60000001 = .error .reservedBits := by decide
theorem test_decode_frame :
    decode (.bytes [1, 2, 3, 4, 5, 6, 7, 8, 9, 10, 11, 12, 13, 14, 15, 16, 17]) =
      .ok (.frame #v[1, 2, 3, 4, 5, 6, 7, 8, 9, 10, 11, 12, 13, 14, 15, 16, 17]) := by decide
theorem test_decode_frame_bad :
    decode (.bytes [3, 0, 0, 0, 0, 0, 0, 0, 0, 0, 0, 0, 0, 0, 0, 0, 0]) = .error .badChip ∧
    decode (.bytes [0, 0, 0]) = .error .shortFrame := by decide
/-- 95 X5: F[2] = 0x20, F[7] = 0x60, F[15] = 9. -/
theorem test_decode_slot1 :
    decode (.slot1 #v[0, 0, 0b00_10_0000, 0, 0, 0, 0, 0b011_00000, 0, 0, 0, 0, 0, 0, 0, 9, 0]) = .ok (.slot1 0 2 3 9) := by
  decide
/-- The example of R185: F[4] = 0x20, F[9] = 0x60, F[10] = 0x05, F[16] = 0. -/
theorem test_decode_slot2 :
    decode (.slot2 #v[0, 0, 0, 0, 0b00_10_0000, 0, 0, 0, 0, 0b011_00000, 0b000_00101, 0, 0, 0, 0, 0, 0]) =
      .ok (.slot2 0 2 3 0 5) := by decide
/-- Corner case (a) of R185: with V2 = 1, P2 and ID2 come from the same byte F[9]. -/
theorem test_decode_slot2_voiceA :
    decode (.slot2 #v[2, 0, 0, 0, 0b11_01_1111, 0, 0, 0, 0, 0b101_10011, 0, 0, 0, 0, 0, 0, 7]) = .ok (.slot2 2 1 5 7 19) := by
  decide
/-- R182 with V2 = 3: ID2 comes from F[11] alone, whatever F[9] and F[10] hold. -/
theorem test_decode_slot2_voiceC :
    decode (.slot2 #v[0, 0, 0, 0, 0b00_11_0000, 0, 0, 0, 0, 0b101_00001, 0b000_00010, 0b111_00100, 0, 0, 0, 0, 7]) =
      .ok (.slot2 0 3 5 7 4) := by decide
theorem test_decode_tick : decode (.tick .direct) = .ok .tickDirect ∧ decode (.tick .rr) = .ok .tickRr := by decide
theorem test_decodeTableWord :
    decodeTableWord 32 0x20E03800 = some (.write 0 7 0x38) ∧ decodeTableWord 32 0x20E03801 = none ∧
    decodeTableWord 136 0x0102 = some (.frame #v[2, 1, 0, 0, 0, 0, 0, 0, 0, 0, 0, 0, 0, 0, 0, 0, 0]) ∧
    decodeTableWord 0 0 = none := by decide

/-! ### Host commands (95 section 2.2) -/

theorem test_step_nop : after (step (withWord 0x00000000)) hostView = some (true, 0, 0, 0) := by decide
theorem test_step_nop_rsvd : after (step (withWord 0x00000001)) hostView = some (true, 2, 0, 0x10) := by decide
theorem test_step_select :
    after (step (withWord 0x18000000)) (fun t => (hostView t, t.trace, t.bus)) =
      some ((true, 0, 0, 0), [.sel 2], ⟨some 2, false, 0⟩) := by decide
theorem test_step_select_chip3 :
    after (step (withWord 0x1C000000)) (fun t => (hostView t, t.trace, t.bus.selCache)) = some ((true, 3, 0, 0x10), [], none) := by
  decide
theorem test_step_write :
    after (step (withWord 0x20E03800)) (fun t => (hostView t, t.trace, t.bus)) =
      some ((true, 0, 0, 0), [.sel 0, .addr 0 7, .data 0 7 0x38], ⟨some 0, true, 7⟩) ∧
    after (step (withWord 0x20E03800)) (fun t => (t.shadow.e0, t.mem.read 7)) = some (⟨0x38, 0, 0, 0, 0, 0⟩, some 0x38) := by
  decide
/-- `write c0, r1, 0xFF`: masked; register 31 of chip 2 is not. -/
theorem test_step_write_masks :
    after (step (withWord 0x2020FF00)) State.trace = some [.sel 0, .addr 0 1, .data 0 1 0x0F] ∧
    after (step (withWord 0x23E0FF00)) State.trace = some [.sel 0, .addr 0 31, .data 0 31 0xFF] := by decide
/-- After `write c0, r8, 0x0F`: `writef c0, r8, 0x05` is one data event; `writef c1, r8` is E_LATCH. -/
theorem test_writeFast :
    after (exec (.writeFast 0 8 5) { State.reset with bus := ⟨some 0, true, 8⟩, latch := ⟨some 8, none, none⟩ })
      (fun t => (hostView t, t.trace, t.shadowAt 0 .lva, t.mem.read 8)) = some ((true, 0, 0, 0), [.data 0 8 5], 5, some 5) := by
  decide
theorem test_writeFast_latch :
    after (exec (.writeFast 1 8 5) { State.reset with bus := ⟨some 0, true, 8⟩ }) (fun t => (hostView t, t.trace)) =
      some ((true, 5, 0, 0x10), []) := by decide
/-- With MIX = 0x38: `rmw c0, r7, and=0xF8, or=0x07` writes and answers 0x3F. -/
theorem test_rmw :
    after (exec (.rmw 0 7 0x07 0xF8)
        { State.reset with bus := ⟨some 0, false, 0⟩, shadow := ⟨⟨0x38, 0, 0, 0, 0, 0⟩, .zero, .zero⟩ })
      (fun t => (hostView t, t.trace, t.shadowAt 0 .mix)) =
      some ((true, 0, 0x3F, 0), [.addr 0 7, .data 0 7 0x3F], 0x3F) := by decide
theorem test_rmw_noshadow :
    after (step (withWord 0x40C0FF00)) (fun t => (hostView t, t.trace)) = some ((true, 4, 0, 0x10), []) := by decide
theorem test_readShadow :
    after (exec (.readShadow 2 10) { State.reset with shadow := ⟨.zero, .zero, ⟨1, 2, 3, 4, 5, 6⟩⟩ }) hostView =
      some (true, 0, 4, 0) := by decide
theorem test_readStatus : after (exec .readStatus { State.reset with status := 0x12 }) hostView = some (true, 0, 0x12, 0) := by
  decide
theorem test_reserved :
    after (step (withWord 0x7C000001)) hostView = some (true, 1, 0, 0x10) ∧
    after (step (withWord 0xF0000000)) hostView = some (true, 1, 0, 0x10) := by decide
theorem test_check_order : after (step (withWord 0x2C000001)) hostView = some (true, 2, 0, 0x10) := by decide

/-! ### FRAME and slots (95 FR1, section 2.5) -/

/-- The frame of FR1. -/
def fr1 : Frame := #v[0, 255, 255, 255, 255, 255, 255, 255, 255, 255, 255, 255, 255, 255, 255, 255, 255]

theorem test_frame_image :
    after (exec (.frame fr1) State.reset) (fun t => (t.shadow.e0, t.mem.map Prod.snd, t.led, t.bus)) =
      some (⟨0xFF, 0x1F, 0x1F, 0x1F, 0, 0⟩,
        [0xFF, 0x0F, 0xFF, 0x0F, 0xFF, 0x0F, 0x1F, 0xFF, 0x1F, 0x1F, 0x1F, 0xFF, 0xFF, 0x0F],
        ⟨true, false, false⟩, ⟨some 0, true, 13⟩) := by decide
theorem test_frame_effects :
    after (exec (.frame fr1) State.reset) (fun t => (t.tsAt 0 2, (t.spAt 0 2).active, t.trace.length)) =
      some (⟨true, 15, 51200, 51200, false⟩, false, 29) := by decide
/-- X5, S1-2: voice B, prescaler 3, count 9. -/
theorem test_slot1 :
    after (exec (.slot1 0 2 3 9) State.reset) (fun t => t.tsAt 0 1) = some ⟨true, 9, 160, 160, false⟩ := by decide
/-- R184 (e): under EXCLUSIVE a slot with no voice stops all three. -/
theorem test_slot1_exclusive :
    after (exec (.slot1 1 0 3 9) { State.reset with ts := .replicate (.replicate ⟨true, 1, 2, 2, true⟩) })
      (fun t => (t.tsAt 1 0, t.tsAt 0 0)) = some (⟨false, 1, 2, 2, true⟩, ⟨true, 1, 2, 2, true⟩) := by decide
/-- The example of R185: sample 5 on voice B with reload 16. -/
theorem test_slot2 :
    after (exec (.slot2 1 2 3 0 5) State.reset) (fun t => t.spAt 1 1) = some ⟨true, 5, 0, 16, 16⟩ := by decide
/-- R185 (d): an id whose length is 0 stops a playing sample. -/
theorem test_slot2_empty :
    after (exec (.slot2 0 1 3 0 2) { State.reset with sp := .replicate (.replicate ⟨true, 0, 1, 4, 3⟩) })
      (fun t => (t.spAt 0 0, t.spAt 0 1)) = some (⟨false, 0, 1, 4, 3⟩, ⟨true, 0, 1, 4, 3⟩) := by decide

/-! ### Activations (R227, R228, R231, R232) -/

/-- The example of R227: a toggle about to flip writes 0 first, then the level. -/
theorem test_tickDirect :
    after (exec .tickDirect
        { State.reset with
          tick := ⟨0, true⟩
          ts := (Triple.replicate (.replicate .zero)).set 0 ((Triple.replicate .zero).set 1 ⟨true, 9, 2, 1, false⟩) })
      (fun t => (t.trace, t.tsAt 0 1, t.tick.tickPending)) =
      some ([.sel 0, .addr 0 9, .data 0 9 0], ⟨true, 9, 2, 2, true⟩, false) := by decide
/-- A playing sample at its last byte writes that byte's low nibble and ends (R232). -/
theorem test_tickDirect_sample_ends :
    after (exec .tickDirect
        { State.reset with
          sp := (Triple.replicate (.replicate .zero)).set 2 ((Triple.replicate .zero).set 0 ⟨true, 5, 1, 1, 1⟩) })
      (fun t => (t.trace.getLast?, t.spAt 2 0)) = some (some (.data 2 8 0x0E), ⟨false, 5, 2, 1, 1⟩) := by decide
/-- The example of R228: rrSlot 4, sample 0 at pos 2 (byte 0xF3). -/
theorem test_tickRr :
    after (exec .tickRr
        { State.reset with
          mode := .rr
          rrSlot := 4
          sp := (Triple.replicate (.replicate .zero)).set 1 ((Triple.replicate .zero).set 1 ⟨true, 0, 2, 3, 3⟩) })
      (fun t => (t.trace.getLast?, t.rrSlot)) = some (some (.data 1 9 3), 5) := by decide
/-- R228 (a): an unarmed slot makes no event and moves on, from 7 to 0. -/
theorem test_tickRr_unarmed :
    after (exec .tickRr { State.reset with mode := .rr, rrSlot := 7 }) (fun t => (t.trace, t.rrSlot)) = some ([], 0) := by decide

/-! ### The clock cycle (95 BUS1, BUS3) -/

/-- A cycle in which the host offers a word. -/
def offer (w : HostWord) : PinsIn := { PinsIn.idle with hValid := true, hCmd := w }

/-- BUS1, cycle 5: the second address-strobe cycle. -/
theorem test_cycle_address_strobe :
    (cycles [offer 0x20E03800, .idle, .idle, .idle, .idle] State.reset).pins = ⟨0b001, false, true, false, 0x07⟩ := by decide
/-- BUS1, cycle 12: done, and the port free. -/
theorem test_cycle_done :
    (fun t => (hostView t, t.host.hostPending, t.trace)) (cycles (offer 0x20E03800 :: List.replicate 11 .idle) State.reset) =
      ((true, 0, 0, 0), false, [.sel 0, .addr 0 7, .data 0 7 0x38]) := by decide +kernel
/-- BUS3: a reset in cycle 5 cuts the job. -/
theorem test_cycle_reset_cuts_a_job :
    (fun t => (t.pins, t.bus.selCache, t.host.hostPending, t.trace))
        (cycles [offer 0x20E03800, .idle, .idle, .idle, .idle, { PinsIn.idle with rst := true }] State.reset) =
      (⟨0, false, false, false, 0⟩, none, false, [.sel 0]) := by decide

/-! ### Every hypothesis is met -/

theorem witness_DecodeInvertsEncode : (Instr.slot2 2 1 5 7 19).wf = true := by decide

/-- Both outcomes of EncodeInvertsHostDecode occur, at the smallest reserved bit too. -/
theorem witness_EncodeInvertsHostDecode :
    (decodeHost 0x20E03800 = .ok (.write 0 7 0x38) ∧ encode (.write 0 7 0x38) = .word 0x20E03800) ∧
    (decodeHost 0x50E00001 = .error .reservedBits ∧ (0x50E00001 : HostWord).toNat / 2 ^ 28 < 7 ∧
      (0x50E00001 : HostWord) &&& mustBeZero ((0x50E00001 : HostWord).toNat / 2 ^ 28) ≠ 0) := by decide

theorem witness_FramesAreSeventeenBytes :
    fr1[0].toNat ≤ 2 ∧ 3 ≤ (fr1.set 0 3)[0].toNat ∧ (16 : Nat) < 17 := by decide

theorem witness_StepExecutesTheDecodedOperation :
    (withWord 0x60000000).schedule = .transaction :: [] ∧ fetch (withWord 0x60000000) = some (.word 0x60000000) ∧
    decode (.word 0x60000000) = .ok .readStatus ∧
    ({ State.reset with schedule := [.cycle .idle] }).schedule = .cycle .idle :: [] ∧ State.reset.schedule = [] := by decide

/-- A host word at 32 bits, a frame at 136: both are fetched by the next step. -/
theorem witness_PlacedWordIsExecutedNext :
    decodeTableWord 32 0x14000000 = some (.select 1) ∧ fetch (State.reset.withFetchWord 32 0x14000000) = some (.word 0x14000000) ∧
    (decodeTableWord 136 1).isSome = true ∧ fetch (State.reset.withFetchWord 0 0) = some (.tick .direct) := by decide

theorem witness_chip_operands : (2 : BitVec 2).toNat = (2 : Chip).val ∧ (0 : BitVec 2).toNat = (0 : Chip).val := by decide

theorem witness_WriteFastReachesTheLatchedRegister :
    let s := { State.reset with bus := ⟨some 2, true, 31⟩, latch := ⟨none, none, some 31⟩ }
    (2 : BitVec 2).toNat = (2 : Chip).val ∧ LatchOk s ∧ s.bus = ⟨some 2, true, 31⟩ := by
  unfold LatchOk; decide

theorem witness_ReservedOpcodesAnswerBadOp : Instr.reservedOpF 0xFFFFFFF ∈
    [Instr.reservedOp7 0xFFFFFFF, .reservedOp8 0xFFFFFFF, .reservedOp9 0xFFFFFFF, .reservedOpA 0xFFFFFFF,
      .reservedOpB 0xFFFFFFF, .reservedOpC 0xFFFFFFF, .reservedOpD 0xFFFFFFF, .reservedOpE 0xFFFFFFF,
      .reservedOpF 0xFFFFFFF] := by decide

/-- One witness for each clause: chip 3; register 13, beside the shadowed 14; a tracker with another register. -/
theorem witness_ValueChecksReject :
    (3 : BitVec 2) = 3 ∧ ((2 : BitVec 2) ≠ 3 ∧ (∀ j ∈ [ShIdx.mix, .lva, .lvb, .lvc, .pa, .pb], shReg j ≠ 13)) ∧
    ((0 : BitVec 2).toNat = (0 : Chip).val ∧
      ¬ ((⟨some 0, true, 8⟩ : BusTracker).selCache = some 0 ∧ (⟨some 0, true, 8⟩ : BusTracker).latchValid = true ∧
        (⟨some 0, true, 8⟩ : BusTracker).latchReg = 7)) := by decide

theorem witness_HostChecksRunInOrder :
    (withWord 0x2C000001).schedule = .transaction :: [] ∧ arbitrate (withWord 0x2C000001) = .host ∧
    hostVerdict (withWord 0x2C000001).host.hostCmd (withWord 0x2C000001).bus = 2 := by decide

theorem witness_RejectedWordsChangeNothingElse :
    (withWord 0x30E03800).schedule = .transaction :: [] ∧ arbitrate (withWord 0x30E03800) = .host ∧
    hostVerdict (withWord 0x30E03800).host.hostCmd (withWord 0x30E03800).bus ≠ 0 := by decide

theorem witness_FrameChip : (fr1.set 0 2)[0].toNat = (2 : Chip).val ∧ 3 ≤ (fr1.set 0 3)[0].toNat := by decide

theorem witness_TickRrWritesTheSlotsVoice : (7 : Fin 9).val = ({ State.reset with rrSlot := 7 }).rrSlot.toNat := by decide

theorem witness_TicksStoreOnlyAmplitudes :
    let s := { State.reset with bus := ⟨some 0, true, 9⟩, latch := ⟨some 9, none, none⟩ }
    LatchOk s ∧ ([0] : List (Fin 9)).map Fin.val = [s.rrSlot.toNat] := by
  unfold LatchOk; decide

/-- Both effects armed on one voice. -/
def bothArmed : State :=
  { State.reset with
    ts := .replicate (.replicate ⟨true, 9, 2, 1, true⟩), sp := .replicate (.replicate ⟨true, 0, 0, 2, 1⟩) }

theorem witness_TimerSynthTakesPriority :
    (bothArmed.tsAt 2 2).active = true ∧ (bothArmed.spAt 2 2).active = true := by decide

theorem witness_SchedulerTouchesOnlyLevels :
    after (exec .tickDirect bothArmed) (fun t => decide (.data 0 8 9 ∈ newEvents bothArmed t)) = some true := by decide

theorem witness_RoundRobinCoversEightCombinations : ({ State.reset with mode := .rr }).mode = .rr := by decide

theorem witness_TimerSynthMakesASquareWave :
    let s := { State.reset with ts := .replicate (.replicate ⟨true, 9, 1, 1, false⟩) }
    s.mode = .direct ∧ 1 ≤ (1 : BitVec 16).toNat ∧ s.tsAt 1 2 = ⟨true, 9, 1, 1, false⟩ := by decide

theorem witness_SamplesPlayOnceAndStop :
    let s := { State.reset with sp := .replicate (.replicate ⟨true, 5, 0, 3, 3⟩) }
    s.mode = .direct ∧ 1 ≤ (3 : BitVec 16).toNat ∧ (s.tsAt 0 0).active = false ∧ s.spAt 0 0 = ⟨true, 5, 0, 3, 3⟩ ∧
    1 ≤ s.cfg.sampleData[5].length ∧ s.cfg.sampleData[5].length = (s.cfg.lenOf 5).toNat := by decide

/-- 95 X3: two writes to chip 0, one to chip 1, one back to chip 0 and a SELECT of it: four pulses. -/
theorem test_pulses :
    pulses none [⟨.write, 0, 0, 1⟩, ⟨.write, 0, 1, 2⟩, ⟨.write, 1, 0, 3⟩, ⟨.write, 0, 0, 5⟩, ⟨.select, 0, 0, 0⟩] = 4 := by decide

/-- A chip's state after a reset that cuts BUS1 in cycle n: its latch, and register 7 (known to be 1 before). -/
def cutInCycle (n : Nat) : Option RegAddr × Option Byte :=
  let s := cycles (offer 0x20E03800 :: List.replicate (n - 1) .idle)
    { State.reset with latch := .replicate (some 3), mem := [(7, 1)] }
  let t := cycle { PinsIn.idle with rst := true } s
  (t.latch.get 0, t.mem.read 7)

/-- 95 BUS1 and BUS3, and U5: a reset in cycle 1 meets no job; in cycles 3 (ASU), 4 (AST), 6 (AHD) and 7 (DSU) the latch is any
value and the byte is the old one; in 8 (DST) the byte is any value too; in 10 (DHD) the byte is the new one. -/
theorem test_reset_cuts_a_job :
    cutInCycle 1 = (some 3, some 1) ∧ cutInCycle 3 = (none, some 1) ∧ cutInCycle 4 = (none, some 1) ∧
    cutInCycle 6 = (none, some 1) ∧ cutInCycle 7 = (none, some 1) ∧ cutInCycle 8 = (none, none) ∧
    cutInCycle 10 = (none, some 0x38) := by decide

/-- Each case of the chips' clauses: no job to cut, a job in another phase, and a data strobe with the latch known and not. -/
theorem witness_ResetCycleClearsEverything :
    ({ PinsIn.idle with rst := true, cfgMode := .rr }).rst = true ∧ State.reset.be.beState = .idle ∧
    (cycles (offer 0x20E03800 :: List.replicate 2 .idle) State.reset).be.beState = .asu ∧
    (cycles (offer 0x20E03800 :: List.replicate 7 .idle) State.reset).be.beState = .dst ∧
    (cycles (offer 0x20E03800 :: List.replicate 7 .idle) State.reset).latch.get 0 = some 7 ∧
    State.reset.latch.get 0 = none := by decide

theorem witness_ModeIsWrittenByResetAlone :
    (next? (step State.reset)).isSome = true ∧ resetNext State.reset = false ∧
    (next? (step { State.reset with schedule := [.cycle { PinsIn.idle with rst := true }] })).isSome = true ∧
    ({ PinsIn.idle with rst := true }).rst = true := by decide

theorem witness_cycles_without_reset : PinsIn.idle.rst = false := by decide

/-- The receiver's five clauses: an offset below 16 (15), the 17th byte, silence at a boundary, the timeout cycle and the one
before it. -/
theorem witness_ReceiverAssemblesFrames :
    ({ PinsIn.idle with rxValid := true }).rxValid = true ∧ (15 : Fin 17).val < 16 ∧ (16 : Fin 17).val = 16 ∧
    PinsIn.idle.rxValid = false ∧ (0 : Fin 17).val = 0 ∧ 1 ≤ (1 : Fin 17).val ∧ 19 + 1 = State.reset.cfg.rxTimeout ∧
    18 + 1 < State.reset.cfg.rxTimeout := by decide

theorem reset_HoldOk : HoldOk State.reset := by unfold HoldOk; decide

/-- A held frame of chip 2, the largest that names a chip, meets the premise of the STATUS statement. -/
theorem witness_StatusCollectsTheCyclesEvents :
    PinsIn.idle.rst = false ∧
    HoldOk { State.reset with hold := ⟨fr1.set 0 2, true⟩, tx := ⟨.frame, .final, [], 0⟩ } := by
  unfold HoldOk; decide

theorem witness_EffectsChangeInFinalCyclesOnly :
    ¬ (State.reset.tx.txPhase = .final ∧ (State.reset.tx.owner = .sched ∨ State.reset.tx.owner = .frame)) := by decide

theorem config_tcfg_wf : Config.tcfg.Wf := by decide

/-- The bus invariant from its parts, each decidable once unfolded. -/
theorem busInv_of {s : State} (h1 : s.cfg.Wf) (h2 : SequencerOk s) (h3 : PinsOk s) (h4 : SelectOk s) (h5 : RunningOk s)
    (h6 : FastOkWaiting s) (h7 : LatchOk s) : BusInv s := ⟨h1, h2, h3, h4, h5, h6, h7⟩

theorem reset_BusInv : BusInv State.reset :=
  busInv_of (by decide) (by unfold SequencerOk; decide) (by unfold PinsOk; decide) (by unfold SelectOk; decide)
    (by unfold RunningOk; decide) (by unfold FastOkWaiting; decide) (by unfold LatchOk; decide)

/-- The state in cycle n of BUS1, for n from 1. -/
def bus1 (n : Nat) : State := cycles (offer 0x20E03800 :: List.replicate (n - 1) .idle) State.reset

theorem bus1_selects : BusInv (bus1 1) :=
  busInv_of (by decide) (by unfold SequencerOk; decide) (by unfold PinsOk; decide) (by unfold SelectOk; decide)
    (by unfold RunningOk; decide) (by unfold FastOkWaiting; decide) (by unfold LatchOk; decide)

theorem bus1_selecting : BusInv (bus1 2) :=
  busInv_of (by decide) (by unfold SequencerOk; decide) (by unfold PinsOk; decide) (by unfold SelectOk; decide)
    (by unfold RunningOk; decide) (by unfold FastOkWaiting; decide) (by unfold LatchOk; decide)

theorem bus1_setup : BusInv (bus1 3) :=
  busInv_of (by decide) (by unfold SequencerOk; decide) (by unfold PinsOk; decide) (by unfold SelectOk; decide)
    (by unfold RunningOk; decide) (by unfold FastOkWaiting; decide) (by unfold LatchOk; decide)

theorem bus1_strobing : BusInv (bus1 5) :=
  busInv_of (by decide) (by unfold SequencerOk; decide) (by unfold PinsOk; decide) (by unfold SelectOk; decide)
    (by unfold RunningOk; decide) (by unfold FastOkWaiting; decide) (by unfold LatchOk; decide)

/-- BUS1, one witness for each clause: the select code changes from cycle 1 to 2, the data lines from 2 to 3, the address strobe
rises from 3 to 4 and falls from 5 to 6. -/
theorem witness_PinsAreStableAroundStrobes :
    (BusInv (bus1 1) ∧ (cycle .idle (bus1 1)).pins.selO ≠ (bus1 1).pins.selO) ∧
    (BusInv (bus1 2) ∧ (cycle .idle (bus1 2)).pins.dO ≠ (bus1 2).pins.dO) ∧
    (BusInv (bus1 3) ∧ ([] : List PinsIn).length < (bus1 3).cfg.nSu ∧
      (bus1 3).pins.asO = false ∧ (cycle .idle (bus1 3)).pins.asO = true) ∧
    (BusInv (bus1 5) ∧ ([] : List PinsIn).length < (bus1 5).cfg.nHd ∧
      (bus1 5).pins.asO = true ∧ (cycle .idle (bus1 5)).pins.asO = false) :=
  ⟨⟨bus1_selects, by decide⟩, ⟨bus1_selecting, by decide⟩, ⟨bus1_setup, by decide⟩, ⟨bus1_strobing, by decide⟩⟩

/-- BUS1, cycle 2: a full write with selection has just started; its last cycle is the ninth. -/
theorem witness_JobsHaveTheirWaveform :
    let s := cycles [offer 0x20E03800, .idle] State.reset
    s.tx.owner ≠ .nobody ∧ s.tx.txPhase = .jobs ∧ PinsOk s ∧ (∀ i ∈ List.replicate 8 PinsIn.idle, i.rst = false) ∧
    (phasesOf s.be.beJob.kind false).head? = some s.be.beState ∧ s.be.beCnt = phaseLength s.cfg s.be.beState ∧
    (phaseCycles s.cfg (phasesOf s.be.beJob.kind false))[(List.replicate 8 PinsIn.idle).length]? = some .dhd := by
  unfold PinsOk; decide

/-- A word waits at the host port of the reset state. -/
def waiting (w : HostWord) : State := { State.reset with host := ⟨true, w, false, 0, 0⟩ }

theorem waiting_NOP_BusInv : BusInv (waiting 0) :=
  busInv_of (by decide) (by unfold SequencerOk; decide) (by unfold PinsOk; decide) (by unfold SelectOk; decide)
    (by unfold RunningOk; decide) (by unfold FastOkWaiting; decide) (by unfold LatchOk; decide)

theorem waiting_READ_STATUS_BusInv : BusInv (waiting 0x60000000) :=
  busInv_of (by decide) (by unfold SequencerOk; decide) (by unfold PinsOk; decide) (by unfold SelectOk; decide)
    (by unfold RunningOk; decide) (by unfold FastOkWaiting; decide) (by unfold LatchOk; decide)

/-- A granted NOP, and a granted READ_STATUS: two cycles each. -/
theorem witness_TransactionsAreAtomic (w : HostWord) (hw : w = 0 ∨ w = 0x60000000) :
    let s := waiting w
    (BusInv s ∧ HoldOk s) ∧ arbitrate s = .host ∧ (∀ i ∈ [PinsIn.idle, .idle], i.rst = false) ∧
    [PinsIn.idle, .idle].length = transactionLength (grantJobs (arbitrate s) s) s := by
  rcases hw with rfl | rfl
  · exact ⟨⟨waiting_NOP_BusInv, by unfold HoldOk; decide⟩, by decide⟩
  · exact ⟨⟨waiting_READ_STATUS_BusInv, by unfold HoldOk; decide⟩, by decide⟩

theorem witness_GrantThenCompleteIsTheTransaction :
    arbitrate (withWord 0x20E03800) ≠ .nobody ∧ (withWord 0x20E03800).be.beState = .idle := by decide

theorem witness_DiscardsReachOnlyStatus :
    (next? (event (.byte 3) State.reset)).isSome = true ∧ (next? (event .tick State.reset)).isSome = true ∧
    (next? (event .timeout { State.reset with rx := ⟨Vector.replicate 16 0, 1, 0⟩ })).isSome = true := by decide

theorem witness_ChipsInfluenceNothing :
    SameButChips { State.reset with mem := [(7, 0x38)] } State.reset ∧
    (next? (step { State.reset with mem := [(7, 0x38)] })).isSome = true := by
  unfold SameButChips; decide

/-- Both branches: a READ_STATUS that ends, as a transaction, and a step that ends none. -/
theorem witness_StatusInfluencesNothing :
    ((next? (step (withWord 0x60000000))).isSome = true ∧ endsReadStatus (withWord 0x60000000) = true) ∧
    ((next? (step (withWord 0x00000000))).isSome = true ∧ endsReadStatus (withWord 0x00000000) = false) := by decide

/-- Each clause: offsets 15 and 16, one byte and none, nothing pending and something. -/
theorem witness_LevelTEventsArrive :
    ({ State.reset with rx := ⟨Vector.replicate 16 0, 15, 0⟩ }).rx.rxCount.val < 16 ∧
    ({ State.reset with rx := ⟨Vector.replicate 16 0, 16, 0⟩ }).rx.rxCount.val = 16 ∧
    1 ≤ ({ State.reset with rx := ⟨Vector.replicate 16 0, 1, 0⟩ }).rx.rxCount.val ∧ State.reset.rx.rxCount.val = 0 ∧
    State.reset.host.hostPending = false ∧ (withWord 0).host.hostPending = true := by decide

theorem reset_EffectsOk : EffectsOk State.reset := by unfold EffectsOk; decide

theorem reset_StatusOk : StatusOk State.reset := by unfold StatusOk; decide

theorem reset_HostErrOk : HostErrOk State.reset := by unfold HostErrOk; decide

theorem reset_MemOk : MemOk State.reset := by unfold MemOk; decide

theorem reset_ReceiverOk : ReceiverOk State.reset := by unfold ReceiverOk; decide

theorem reset_TickOk : TickOk State.reset := by unfold TickOk; decide

theorem reset_MaskedOk : MaskedOk State.reset :=
  ⟨fun _ _ _ h => by simp [State.reset, State.resetWith] at h, fun h => absurd rfl h⟩

theorem reset_ShadowAgrees : ShadowAgrees State.reset :=
  fun _ _ _ h => by simp [State.reset, State.resetWith, Memory.read] at h

/-- The reset state meets every premise of the invariants' claims together, and its step answers a next state. -/
theorem witness_StepsKeep :
    (EffectsOk State.reset ∧ StatusOk State.reset ∧ HostErrOk State.reset ∧ MemOk State.reset ∧ HoldOk State.reset ∧
      State.reset.cfg.Wf ∧ ReceiverOk State.reset ∧ TickOk State.reset ∧ BusInv State.reset ∧ MaskedOk State.reset ∧
      ShadowAgrees State.reset) ∧
    resetNext State.reset = false ∧ (next? (step State.reset)).isSome = true :=
  ⟨⟨reset_EffectsOk, reset_StatusOk, reset_HostErrOk, reset_MemOk, reset_HoldOk, config_tcfg_wf, reset_ReceiverOk,
    reset_TickOk, reset_BusInv, reset_MaskedOk, reset_ShadowAgrees⟩, by decide⟩

/-- A state in which the effect and shadow invariants say something: both effects armed everywhere, and a known byte that the
shadow has. -/
theorem witness_busy_invariants :
    EffectsOk bothArmed ∧
    ShadowAgrees { State.reset with mem := [(7, 0x38)], shadow := ⟨⟨0x38, 0, 0, 0, 0, 0⟩, .zero, .zero⟩ } := by
  refine ⟨by unfold EffectsOk; decide, fun c i b h => ?_⟩
  revert h
  fin_cases c <;> cases i <;> simp [Memory.read, chipRegAddr, shReg, State.shadowAt, Triple.get, Shadow.get]
  exact Eq.symm

end Sys2Proof.Tests
end

/-! # Proofs: the state (10_state.md) -/

namespace Sys2Proof.Machine

/-! ### What a step is made of -/

/-- A host word matches no row or decodes to a host command, which runs its plan (R96, R144, R286). -/
theorem decodeHost_cases (w : HostWord) :
    decodeHost w = .error .reservedBits ∨
    ∃ i, decodeHost w = .ok i ∧ ∀ s, exec i s = .next (hostTransaction (planOf i s) s) := by
  have hrow : ∀ row i, (∀ s, exec i s = .next (hostTransaction (planOf i s) s)) →
      decodeRow row w i = .error .reservedBits ∨
      ∃ i', decodeRow row w i = .ok i' ∧ ∀ s, exec i' s = .next (hostTransaction (planOf i' s) s) := by
    intro row i hi
    unfold decodeRow
    split
    · exact .inr ⟨i, rfl, hi⟩
    · exact .inl rfl
  unfold decodeHost
  split
  case h_1 | h_2 | h_3 | h_4 | h_5 | h_6 | h_7 => exact hrow _ _ fun _ => rfl
  all_goals exact .inr ⟨_, rfl, fun _ => rfl⟩

/-- What a transaction does: the plan of the pending word, the frame held, a held frame dropped, or an activation; the arbiter
says which (R285, R286). -/
theorem transaction_cases {s t : State} (h : transaction s = .next t) :
    (arbitrate s = .host ∧ t = hostTransaction (hostPlan s.host.hostCmd s) s) ∨
    (∃ c, arbitrate s = .frame ∧ frameChip s.hold.hold = some c ∧ t = frameTransaction c s.hold.hold s) ∨
    (arbitrate s = .frame ∧ frameChip s.hold.hold = none ∧ t = closeTx [] (dropHeld (clearDone s))) ∨
    (arbitrate s = .sched ∧ t = schedTransaction (schedJobs s) s) := by
  unfold transaction fetch at h
  cases ha : arbitrate s <;> simp only [ha] at h
  case nobody => cases h
  case sched =>
    refine .inr (.inr (.inr ⟨rfl, ?_⟩))
    cases hm : s.mode <;> rw [hm] at h <;> simpa [schedJobs, hm] using (Host.Outcome.next.inj h).symm
  case frame =>
    rw [decode_frame, decodeFrame] at h
    cases hc : frameChip s.hold.hold <;> simp only [hc, exec, execFrame, Host.Outcome.next.injEq] at h
    · exact .inr (.inr (.inl ⟨rfl, rfl, h.symm⟩))
    · exact .inr (.inl ⟨_, rfl, rfl, h.symm⟩)
  case host =>
    refine .inl ⟨rfl, ?_⟩
    rcases decodeHost_cases s.host.hostCmd with hd | ⟨i, hd, hi⟩
    · simpa [decode, hd, rejectFetched, hostPlan] using h.symm
    · simpa [decode, hd, hi, hostPlan] using h.symm

/-- A property that every clock cycle without reset, every event and every transaction keeps is kept by every step; by reset
cycles too, where they keep it. -/
theorem step_keeps {P : State → Prop} (hnext : ∀ s rest, P s → P { s with schedule := rest })
    (hcycle : ∀ i s, P s → P (runCycle i s)) (hevent : ∀ e s t, P s → event e s = .next t → P t)
    (htrans : ∀ s t, P s → transaction s = .next t → P t) {s t : State} (hs : P s) (h : step s = .next t)
    (hreset : resetNext s = false ∨ ∀ i u, P u → P (resetCycle i u)) : P t := by
  rcases step_cases h with ⟨hq, rfl⟩ | ⟨i, rest, hq, rfl⟩ | ⟨e, rest, -, he⟩ | ⟨rest, -, ht⟩
  · exact hcycle .idle s hs
  · unfold cycle
    split
    · next hi =>
      have hr : ∀ u, P u → P (resetCycle i u) := by
        rcases hreset with hreset | hreset
        · simp [resetNext, hq, hi] at hreset
        · exact hreset i
      exact hr _ (hnext s rest hs)
    · exact hcycle i _ (hnext s rest hs)
  · exact hevent e _ t (hnext s rest hs) he
  · exact htrans _ t (hnext s rest hs) ht

/-- `P` is kept by each agent of the clock cycle (R290), each event (R291) and each transaction (R286), resets aside. An agent
that writes nothing `P` reads keeps it by the frame lemmas of the agents, which is the default of every field. -/
structure KeptByAgents (P : State → Prop) : Prop where
  /-- The schedule moves on. -/
  next : ∀ s rest, P s → P { s with schedule := rest } := by intro _ _ h; exact h
  /-- `h_done_o` falls. -/
  pulseEnds : ∀ s, P s → P (clearDone s) := by intro _ h; simpa using h
  /-- The bus engine. -/
  engine : ∀ s, P s → P (engineCycle s) := by intro _ h; simpa using h
  /-- A grant. -/
  grant : ∀ s, arbitrate s ≠ .nobody → P s → P (openTx (arbitrate s) s) := by intro _ _ h; simpa using h
  /-- The final cycle of a transaction. -/
  final : ∀ s, P s → P (releaseBus (finalEffects s.tx.owner s)) := by intro _ h; simpa using h
  /-- The pins change, and the chips see the edge. -/
  edge : ∀ s, P s → P (observe s.pins (drivePins s).pins (drivePins s)) := by intro _ h; simpa using h
  /-- The receiver takes a byte. -/
  byte : ∀ b s, P s → P (receiveByte b s) := by intro _ _ h; simpa using h
  /-- The receiver in a cycle with no byte. -/
  silence : ∀ s, P s → P (receiveNothing s) := by intro _ h; simpa using h
  /-- The receiver's timeout as an event. -/
  timeout : ∀ s, P s → P (dropPartial s) := by intro _ h; simpa using h
  /-- The tick generator in a cycle. -/
  divider : ∀ s, P s → P (tickCycle s) := by intro _ h; simpa using h
  /-- A tick as an event. -/
  tick : ∀ s, P s → P (raiseTick s) := by intro _ h; simpa using h
  /-- A host offer is taken. -/
  offer : ∀ w s, P s → P (takeOffer w s) := by intro _ _ h; exact h
  /-- The event Complete. -/
  complete : ∀ s, P s → P (completeTx s) := by intro _ h; simpa [completeTx] using h
  /-- A HOST transaction. -/
  host : ∀ p s, P s → P (hostTransaction p s) := by intro _ _ h; simpa using h
  /-- A FRAME transaction. -/
  frame : ∀ c f s, P s → P (frameTransaction c f s) := by intro _ _ _ h; simpa using h
  /-- A held frame that names no chip is dropped. -/
  drop : ∀ s, P s → P (closeTx [] (dropHeld s)) := by intro _ h; simpa using h
  /-- A SCHED transaction. -/
  sched : ∀ js s, P s → P (schedTransaction js s) := by intro _ _ h; simpa using h

namespace KeptByAgents

variable {P : State → Prop} (k : KeptByAgents P)
include k

theorem txCycle {s : State} (hs : P s) : P (txCycle s) := by
  rcases txCycle_cases s with ⟨-, -, h⟩ | ⟨-, ha, h⟩ | ⟨-, -, h⟩ | ⟨-, -, h⟩ <;> rw [h]
  · exact k.engine s hs
  · exact k.engine _ (k.grant s ha hs)
  · exact k.final s hs
  · exact k.engine s hs

theorem runCycle (i : PinsIn) {s : State} (hs : P s) : P (runCycle i s) := by
  have htx := k.txCycle (k.pulseEnds s hs)
  have hbus := k.edge _ htx
  simp only [txCycle_pins, clearDone_pins] at hbus
  have hrx : ∀ u, P u → P (receiverCycle i u) := by
    intro u hu
    unfold receiverCycle
    split
    · exact k.byte _ u hu
    · exact k.silence u hu
  have hhost : ∀ p u, P u → P (acceptHost i p u) := by
    intro p u hu
    unfold acceptHost
    split
    · exact k.offer _ u hu
    · exact hu
  exact hhost _ _ (k.divider _ (hrx _ hbus))

theorem event {e : Event} {s t : State} (hs : P s) (h : event e s = .next t) : P t := by
  have hs' := k.pulseEnds s hs
  rcases event_cases h with ⟨b, -, rfl⟩ | ⟨-, -, rfl⟩ | ⟨-, rfl⟩ | ⟨w, -, -, rfl⟩ | ⟨x, -, hx, ha, -, rfl⟩ |
    ⟨-, -, -, rfl⟩
  · exact k.byte b _ hs'
  · exact k.timeout _ hs'
  · exact k.tick _ hs'
  · exact k.offer w _ hs'
  · have ha' : arbitrate (clearDone s) = x := ha
    subst ha'
    exact k.grant _ hx hs'
  · exact k.complete _ hs'

theorem transaction {s t : State} (hs : P s) (h : transaction s = .next t) : P t := by
  rcases transaction_cases h with ⟨-, rfl⟩ | ⟨c, -, -, rfl⟩ | ⟨-, -, rfl⟩ | ⟨-, rfl⟩
  · exact k.host _ s hs
  · exact k.frame c _ s hs
  · exact k.drop _ (k.pulseEnds s hs)
  · exact k.sched _ s hs

/-- Every step keeps what every agent keeps. -/
theorem step {s t : State} (hs : P s) (h : step s = .next t)
    (hreset : resetNext s = false ∨ ∀ i u, P u → P (resetCycle i u)) : P t :=
  step_keeps k.next (fun i _ hu => k.runCycle i hu) (fun _ _ _ hu he => k.event hu he)
    (fun _ _ hu ht => k.transaction hu ht) hs h hreset

end KeptByAgents

/-! ### The reset table (R310) -/

section
variable (i : PinsIn) (s : State)

@[simp] theorem resetCycle_cfg : (resetCycle i s).cfg = s.cfg := by simp [resetCycle, State.resetWith]
@[simp] theorem resetCycle_mode : (resetCycle i s).mode = i.cfgMode := by simp [resetCycle, State.resetWith]
@[simp] theorem resetCycle_bus : (resetCycle i s).bus = ⟨none, false, 0⟩ := by simp [resetCycle, State.resetWith]
@[simp] theorem resetCycle_pins : (resetCycle i s).pins = ⟨s.cfg.selNone, false, false, false, 0⟩ := by simp [resetCycle, State.resetWith]
@[simp] theorem resetCycle_be : (resetCycle i s).be = ⟨.idle, 0, ⟨.select, 0, 0, 0⟩⟩ := by simp [resetCycle, State.resetWith]
@[simp] theorem resetCycle_shadow : (resetCycle i s).shadow = .replicate .zero := by simp [resetCycle, State.resetWith]
@[simp] theorem resetCycle_ts : (resetCycle i s).ts = .replicate (.replicate .zero) := by simp [resetCycle, State.resetWith]
@[simp] theorem resetCycle_sp : (resetCycle i s).sp = .replicate (.replicate .zero) := by simp [resetCycle, State.resetWith]
@[simp] theorem resetCycle_rrSlot : (resetCycle i s).rrSlot = 0 := by simp [resetCycle, State.resetWith]
@[simp] theorem resetCycle_tick : (resetCycle i s).tick = ⟨0, false⟩ := by simp [resetCycle, State.resetWith]
@[simp] theorem resetCycle_rx : (resetCycle i s).rx = ⟨Vector.replicate 16 0, 0, 0⟩ := by simp [resetCycle, State.resetWith]
@[simp] theorem resetCycle_hold : (resetCycle i s).hold = ⟨Vector.replicate 17 0, false⟩ := by simp [resetCycle, State.resetWith]
@[simp] theorem resetCycle_led : (resetCycle i s).led = .replicate false := by simp [resetCycle, State.resetWith]
@[simp] theorem resetCycle_host : (resetCycle i s).host = ⟨false, 0, false, 0, 0⟩ := by simp [resetCycle, State.resetWith]
@[simp] theorem resetCycle_status : (resetCycle i s).status = 0 := by simp [resetCycle, State.resetWith]
@[simp] theorem resetCycle_tx : (resetCycle i s).tx = ⟨.nobody, .grant, [], 0⟩ := by simp [resetCycle, State.resetWith]
@[simp] theorem resetCycle_trace : (resetCycle i s).trace = s.trace := by simp [resetCycle, State.resetWith]

end

/-! ### Parameters and MODE (R7, R21) -/

theorem kept_cfg (cfg : Config) : KeptByAgents (fun s => s.cfg = cfg) where

theorem kept_mode (m : Mode) : KeptByAgents (fun s => s.mode = m) where

/-- Settles O38: no agent writes the parameters or MODE, and a reset cycle writes MODE with the strap. -/
theorem modeIsWrittenByResetAlone : Obligations.ModeIsWrittenByResetAlone := by
  intro s t h
  refine ⟨(kept_cfg s.cfg).step rfl h (.inr fun i u hu => ?_),
    fun hr => (kept_mode s.mode).step rfl h (.inl hr), ?_⟩
  · exact (resetCycle_cfg i u).trans hu
  · intro i rest hq hi
    have ht : t = cycle i { s with schedule := rest } := by simpa [step, hq] using h.symm
    simp [ht, cycle, hi]

end Sys2Proof.Machine

namespace Sys2Proof.Machine

/-! ### Effects (R28, R30) -/

/-- R28 for one timer-synth. -/
def TimerSynth.Legal (t : TimerSynth) : Prop :=
  t.active = true → 1 ≤ t.countdown.toNat ∧ t.countdown.toNat ≤ t.reload.toNat

/-- R30 for one sample playback. -/
def SamplePlay.Legal (cfg : Config) (p : SamplePlay) : Prop :=
  p.active = true →
    1 ≤ p.countdown.toNat ∧ p.countdown.toNat ≤ p.reload.toNat ∧ p.pos.toNat < (cfg.lenOf p.id).toNat

/-- `EffectsOk` as a property of what it reads. -/
def EffectsLegal (cfg : Config) (ts : Triple (Triple TimerSynth)) (sp : Triple (Triple SamplePlay)) : Prop :=
  ∀ c v, ((ts.get c).get v).Legal ∧ ((sp.get c).get v).Legal cfg

theorem effectsOk_iff {s : State} : EffectsOk s ↔ EffectsLegal s.cfg s.ts s.sp := Iff.rfl

theorem TimerSynth.legal_stop (t : TimerSynth) : t.stop.Legal := by simp [stop, Legal]

theorem SamplePlay.legal_stop (cfg : Config) (p : SamplePlay) : p.stop.Legal cfg := by simp [stop, Legal]

theorem TimerSynth.legal_arm {ticks : BitVec 16} (h : ticks ≠ 0) (level : BitVec 4) : (arm level ticks).Legal :=
  fun _ => ⟨BitVec.toNat_pos_of_ne_zero h, Nat.le_refl _⟩

theorem SamplePlay.legal_arm {cfg : Config} {ticks : BitVec 16} {id : BitVec 5} (h : ticks ≠ 0) (hl : cfg.lenOf id ≠ 0) :
    (arm id ticks).Legal cfg :=
  fun _ => ⟨BitVec.toNat_pos_of_ne_zero h, Nat.le_refl _, BitVec.toNat_pos_of_ne_zero hl⟩

/-- A countdown that is not yet 1 goes down by one and stays in its range (R231, R232). -/
theorem countdown_in_range {x reload : BitVec 16} (h1 : 1 ≤ x.toNat) (hr : x.toNat ≤ reload.toNat) (hx : x ≠ 1) :
    1 ≤ (x - 1).toNat ∧ (x - 1).toNat ≤ reload.toNat := by bv_omega

theorem TimerSynth.Legal.advance {t : TimerSynth} (h : t.Legal) : t.advance.Legal := by
  unfold TimerSynth.advance
  split
  · next ha =>
    obtain ⟨h1, hr⟩ := h ha
    split
    · exact fun _ => ⟨h1.trans hr, Nat.le_refl _⟩
    · next hc => exact fun _ => countdown_in_range h1 hr hc
  · exact h

theorem SamplePlay.Legal.advance {cfg : Config} {p : SamplePlay} (h : p.Legal cfg) : (p.advance cfg).Legal cfg := by
  unfold SamplePlay.advance
  split
  · next ha =>
    obtain ⟨h1, hr, hp⟩ := h ha
    split
    · intro hend
      have hlt : p.pos.toNat + 1 < (cfg.lenOf p.id).toNat := of_decide_eq_true hend
      have hpos : (p.pos + 1).toNat = p.pos.toNat + 1 := by bv_omega
      exact ⟨h1.trans hr, Nat.le_refl _, by simpa only [hpos] using hlt⟩
    · next hc =>
      obtain ⟨h1', hr'⟩ := countdown_in_range h1 hr hc
      exact fun _ => ⟨h1', hr', hp⟩
  · exact h

theorem EffectsLegal.advance {cfg : Config} {ts : Triple (Triple TimerSynth)} {sp : Triple (Triple SamplePlay)}
    (h : EffectsLegal cfg ts sp) :
    EffectsLegal cfg (ts.map fun t => t.map TimerSynth.advance) (sp.map fun p => p.map (SamplePlay.advance cfg)) := by
  intro c v
  obtain ⟨ht, hp⟩ := h c v
  simpa only [Triple.get_map] using ⟨ht.advance, hp.advance⟩

/-- What holds of every element still holds after one is set to something of which it holds. -/
theorem forall_get_set {α : Type} {p : α → Prop} {t : Triple α} (h : ∀ v, p (t.get v)) {x : α} (hx : p x)
    (w : Fin 3) (v : Fin 3) : p ((t.set w x).get v) := by
  rw [Triple.get_set]
  split
  · exact hx
  · exact h v

theorem legal_slot1Stops (policy : TsPolicy) (voice : BitVec 2) (ticks : BitVec 16) {t : Triple TimerSynth}
    (h : ∀ v, (t.get v).Legal) (v : Voice) : ((slot1Stops policy voice ticks t).get v).Legal := by
  have hstop : ∀ v, ((t.map TimerSynth.stop).get v).Legal := fun v => by
    rw [Triple.get_map]
    exact (t.get v).legal_stop
  unfold slot1Stops
  split <;> split
  · exact forall_get_set hstop (h _) _ v
  · exact hstop v
  · split
    · exact forall_get_set h (TimerSynth.legal_stop _) _ v
    · exact h v
  · exact h v

/-- Slot 1 arms only with a reload that is not 0 (R184). -/
theorem ticks_ne_zero_of_slot1Arms {voice : BitVec 2} {ticks : BitVec 16} {v : Voice}
    (h : slot1Arms voice ticks = some v) : ticks ≠ 0 := by
  rintro rfl
  simp [slot1Arms] at h

theorem legal_slot1Chip (policy : TsPolicy) (voice : BitVec 2) (ticks : BitVec 16) (level : BitVec 4)
    {t : Triple TimerSynth} (h : ∀ v, (t.get v).Legal) (v : Voice) :
    ((slot1Chip policy voice ticks level t).get v).Legal := by
  have hstops := legal_slot1Stops policy voice ticks h
  unfold slot1Chip
  split
  · next w hw => exact forall_get_set hstops (TimerSynth.legal_arm (ticks_ne_zero_of_slot1Arms hw) level) w v
  · exact hstops v

theorem legal_slot2Play {cfg : Config} (ticks : BitVec 16) (id : BitVec 5) (p : SamplePlay) :
    (slot2Play cfg ticks id p).Legal cfg := by
  unfold slot2Play
  split
  · exact p.legal_stop cfg
  · next h =>
    rw [not_or] at h
    exact SamplePlay.legal_arm h.1 h.2

theorem effectsOk_slot1Apply {s : State} (h : EffectsOk s) (c : Chip) (voice : BitVec 2) (presc : BitVec 3) (n : Byte) :
    EffectsOk (slot1Apply c voice presc n s) := fun c' v =>
  ⟨forall_get_set (p := fun t : Triple TimerSynth => ∀ v, (t.get v).Legal) (fun c v => (h c v).1)
    (legal_slot1Chip _ _ _ _ fun v => (h c v).1) c c' v, (h c' v).2⟩

theorem effectsOk_slot2Apply {s : State} (h : EffectsOk s) (c : Chip) (voice : BitVec 2) (presc : BitVec 3) (n : Byte)
    (id : BitVec 5) : EffectsOk (slot2Apply c voice presc n id s) := by
  unfold slot2Apply
  split
  · exact h
  · next w _ =>
    exact fun c' v =>
      ⟨(h c' v).1, forall_get_set (p := fun t : Triple SamplePlay => ∀ v, (t.get v).Legal s.cfg) (fun c v => (h c v).2)
        (forall_get_set (fun v => (h c v).2) (legal_slot2Play _ _ _) w) c c' v⟩

theorem effectsOk_frameFinal {s : State} (h : EffectsOk s) (c : Chip) (f : Frame) : EffectsOk (frameFinal c f s) :=
  effectsOk_slot2Apply (effectsOk_slot1Apply h c _ _ _) c _ _ _ _

theorem effectsOk_advance {s : State} (h : EffectsOk s) : EffectsOk (advance s) := EffectsLegal.advance h

theorem effectsOk_finalEffects {s : State} (h : EffectsOk s) (x : Owner) : EffectsOk (finalEffects x s) := by
  cases x <;> simp only [finalEffects]
  case nobody => exact h
  case sched => exact effectsOk_advance h
  case frame =>
    split
    · exact effectsOk_frameFinal h _ _
    · exact h
  case host => simpa [effectsOk_iff] using h

theorem kept_effectsLegal : KeptByAgents (fun s => EffectsLegal s.cfg s.ts s.sp) where
  final s h := effectsOk_finalEffects (s := s) h s.tx.owner
  complete s h := effectsOk_finalEffects (s := runJobs _ s) (by simpa [effectsOk_iff] using h) s.tx.owner
  frame c f s h := effectsOk_frameFinal (s := runJobs _ _) (by simpa [effectsOk_iff] using h) c f
  sched js s h := effectsOk_advance (s := runJobs js _) (by simpa [effectsOk_iff] using h)

theorem effectsOk_resetCycle (i : PinsIn) (s : State) : EffectsOk (resetCycle i s) := by
  intro c v
  simp [State.tsAt, State.spAt, TimerSynth.zero, SamplePlay.zero]

/-- Settles O56: the slots arm legal records only, and the advance keeps every record legal. -/
theorem stepsKeepEffectsOk : Obligations.StepsKeepEffectsOk :=
  fun _ _ hs h => kept_effectsLegal.step hs h (.inr fun i u _ => effectsOk_resetCycle i u)

end Sys2Proof.Machine

namespace Sys2Proof.Machine

/-! ### STATUS (R277) -/

theorem statusOk_setFlag {s : State} (h : StatusOk s) (f : StatusFlag) : StatusOk (setFlag f s) := by
  have hf : f.bit &&& 0xE0 = 0 := by cases f <;> decide
  have hs : s.status &&& 0xE0 = 0 := h
  show (s.status ||| f.bit) &&& 0xE0 = 0
  rw [BitVec.and_or_distrib_right, hs, hf]
  rfl

theorem statusOk_finishHost {s : State} (h : StatusOk s) (p : HostPlan) : StatusOk (finishHost p s) := by
  rcases finishHost_cases s p with ⟨b, -, -, e⟩ | ⟨-, -, e⟩ | ⟨-, e⟩ <;> rw [e]
  · exact h
  · exact BitVec.zero_and
  · exact statusOk_setFlag h .hostErr

theorem statusOk_finalEffects {s : State} (h : StatusOk s) (x : Owner) : StatusOk (finalEffects x s) := by
  cases x <;> simp only [finalEffects]
  case nobody | sched => exact h
  case frame =>
    split
    · simpa [StatusOk] using h
    · exact statusOk_setFlag h .rxBadChip
  case host => exact statusOk_finishHost h _

theorem statusOk_receiveByte {s : State} (h : StatusOk s) (b : Byte) : StatusOk (receiveByte b s) := by
  unfold receiveByte completeFrame holdFrame
  split
  · exact h
  · split
    · split
      · exact statusOk_setFlag h .rxOverrun
      · exact h
    · exact statusOk_setFlag h .rxBadChip

theorem statusOk_receiveNothing {s : State} (h : StatusOk s) : StatusOk (receiveNothing s) := by
  unfold receiveNothing
  split_ifs
  · exact h
  · exact statusOk_setFlag h .rxShort
  · exact h

theorem statusOk_raiseTick {s : State} (h : StatusOk s) : StatusOk (raiseTick s) := by
  unfold raiseTick
  split
  · exact statusOk_setFlag h .tickOverrun
  · exact h

theorem statusOk_tickCycle {s : State} (h : StatusOk s) : StatusOk (tickCycle s) := by
  unfold tickCycle
  split
  · exact statusOk_raiseTick h
  · exact h

theorem statusOk_runJobs {s : State} (h : StatusOk s) (js : List JobReq) : StatusOk (runJobs js s) := by
  simpa [StatusOk] using h

theorem kept_status : KeptByAgents (fun s => s.status &&& 0xE0 = 0) where
  final s h := statusOk_finalEffects h s.tx.owner
  byte b _ h := statusOk_receiveByte h b
  silence _ h := statusOk_receiveNothing h
  timeout _ h := statusOk_setFlag h .rxShort
  divider _ h := statusOk_tickCycle h
  tick _ h := statusOk_raiseTick h
  complete s h := statusOk_finalEffects (statusOk_runJobs h _) s.tx.owner
  host p _ h := statusOk_finishHost (statusOk_runJobs h _) p
  drop _ h := statusOk_setFlag h .rxBadChip

/-! ### The host error code (R99) -/

theorem HostErr.code_le (e : HostErr) : e.code.toNat ≤ 5 := by cases e <;> decide

theorem hostErrOk_finishHost (s : State) (p : HostPlan) : HostErrOk (finishHost p s) := by
  obtain ⟨-, -, -, he⟩ := finishHost_host s p
  unfold HostErrOk
  rw [he]
  exact p.err.code_le

/-- No final effect but that of a host command writes the host registers (R145). -/
theorem finalEffects_host_of_ne {x : Owner} (hx : x ≠ .host) (s : State) : (finalEffects x s).host = s.host := by
  cases x
  case nobody | sched => rfl
  case frame =>
    simp only [finalEffects]
    split <;> simp
  case host => exact absurd rfl hx

theorem hostErrOk_finalEffects {s : State} (h : HostErrOk s) (x : Owner) : HostErrOk (finalEffects x s) := by
  by_cases hx : x = .host
  · subst hx
    exact hostErrOk_finishHost s _
  · simpa [HostErrOk, finalEffects_host_of_ne hx] using h

theorem kept_hostErr : KeptByAgents (fun s => s.host.hErrO.toNat ≤ 5) where
  final s h := hostErrOk_finalEffects h s.tx.owner
  complete s h := hostErrOk_finalEffects (s := runJobs _ s) (by simpa [HostErrOk] using h) s.tx.owner
  host p s _ := hostErrOk_finishHost (runJobs p.jobs s) p

/-! ### The image (R60, R62) -/

theorem memOk_chipStores {s : State} (h : MemOk s) (c : Chip) (v : Byte) : MemOk (chipStores c v s) := by
  unfold chipStores
  split
  · exact Memory.wf_write h (chipRegAddr_lt c _) v
  · exact Memory.wf_forget h _ _

theorem memOk_dataPhase {s : State} (h : MemOk s) (c : Chip) (r : RegAddr) (v : Byte) : MemOk (dataPhase c r v s) :=
  memOk_chipStores (s := dataEnd c r v s) h c v

theorem memOk_busWrite {s : State} (h : MemOk s) (c : Chip) (r : RegAddr) (v : Byte) : MemOk (busWrite c r v s) :=
  memOk_dataPhase (by simpa [MemOk] using h) c r _

theorem memOk_runJob {s : State} (h : MemOk s) (j : JobReq) : MemOk (runJob s j) := by
  rcases runJob_cases s j with ⟨-, e⟩ | ⟨-, e⟩ | ⟨-, e⟩ | ⟨-, -, e⟩ | ⟨-, -, e⟩ <;> rw [e]
  · exact h
  · exact memOk_busWrite h _ _ _
  · exact memOk_dataPhase h _ _ _
  · exact memOk_dataPhase h _ _ _
  · exact memOk_busWrite h _ _ _

/-- What every single job keeps, the jobs of a transaction keep. -/
theorem runJobs_keeps {P : State → Prop} (hjob : ∀ s j, P s → P (runJob s j)) (js : List JobReq) {s : State} (h : P s) :
    P (runJobs js s) := by
  induction js generalizing s with
  | nil => exact h
  | cons j js ih => exact ih (hjob s j h)

theorem memOk_runJobs {s : State} (h : MemOk s) (js : List JobReq) : MemOk (runJobs js s) :=
  runJobs_keeps (P := MemOk) (fun _ j hs => memOk_runJob hs j) js h

theorem memOk_chipSees {s : State} (h : MemOk s) (old new : BusPins) (c : Chip) : MemOk (chipSees old new s c) := by
  unfold chipSees
  split_ifs
  · exact h
  · exact memOk_chipStores h c _
  · exact h
  · exact h

theorem memOk_observe {s : State} (h : MemOk s) (old new : BusPins) : MemOk (observe old new s) :=
  memOk_chipSees (memOk_chipSees (memOk_chipSees h old new 0) old new 1) old new 2

theorem memOk_resetCycle {s : State} (h : MemOk s) (i : PinsIn) : MemOk (resetCycle i s) := by
  unfold resetCycle observeReset chipLoses
  split
  · exact h
  · show Memory.wf (if _ then _ else _)
    split
    · split <;> exact Memory.wf_forget h _ _
    · exact h

theorem kept_mem : KeptByAgents (fun s => s.mem.wf) where
  edge s h := memOk_observe (s := drivePins s) h _ _
  complete s h := by simpa [completeTx, MemOk] using memOk_runJobs h (s.tx.txJobs.drop s.tx.txIdx)
  host p s h := by simpa [MemOk] using memOk_runJobs h p.jobs
  frame c f s h := by
    simpa [frameTransaction, MemOk] using memOk_runJobs (s := toggleLed c (clearDone s)) h (frameJobs c f)
  sched js s h := by simpa [schedTransaction, MemOk] using memOk_runJobs (s := takeTick (clearDone s)) h js

/-! ### The hold register (R37) -/

/-- `HoldOk` as a property of what it reads. -/
def HoldLegal (h : HoldReg) (x : Owner) : Prop :=
  (h.holdFull = true → h.hold[0].toNat ≤ 2) ∧ (x = .frame → h.holdFull = true)

/-- A free bus asks nothing of the hold register. -/
theorem HoldLegal.free {h : HoldReg} {x : Owner} (hh : HoldLegal h x) : HoldLegal h .nobody :=
  ⟨hh.1, fun hx => nomatch hx⟩

theorem holdLegal_released (h : HoldReg) : HoldLegal { h with holdFull := false } .nobody :=
  ⟨fun hf => (nomatch hf), fun hx => nomatch hx⟩

@[simp] theorem nextJob_owner (s : State) : (nextJob s).tx.owner = s.tx.owner := by
  rcases nextJob_cases s with ⟨-, h⟩ | ⟨j, -, -, h⟩ | ⟨-, -, h⟩ <;> rw [h] <;> rfl

/-- The engine leaves the bus to its owner (R42). -/
@[simp] theorem engineCycle_owner (s : State) : (engineCycle s).tx.owner = s.tx.owner := by
  rcases engineCycle_cases s with ⟨-, -, h⟩ | ⟨p, -, -, h⟩ | ⟨-, -, h⟩ <;> rw [h] <;> simp

@[simp] theorem openTx_owner (x : Owner) (s : State) : (openTx x s).tx.owner = x := rfl

/-- A frame is granted only when one is held (R285). -/
theorem holdFull_of_arbitrate_frame {s : State} (h : arbitrate s = .frame) : s.hold.holdFull = true := by
  unfold arbitrate foreground at h
  split at h
  · cases h
  · split at h
    · cases h
    · cases hf : s.hold.holdFull
      · cases hb : s.cfg.arbFg <;> cases hp : s.host.hostPending <;> simp [hf, hb, hp] at h
      · rfl

theorem holdLegal_finalEffects {s : State} (h : HoldOk s) (x : Owner) : HoldLegal (finalEffects x s).hold .nobody := by
  cases x <;> simp only [finalEffects]
  case nobody | sched => exact HoldLegal.free h
  case frame =>
    split
    · simpa [frameFinal] using holdLegal_released _
    · exact holdLegal_released _
  case host => simpa using HoldLegal.free h

/-- The receiver fills a free hold register with a frame that names a chip, and leaves a full one (R174, R175). -/
theorem holdOk_receiveByte {s : State} (h : HoldOk s) (b : Byte) : HoldOk (receiveByte b s) := by
  unfold receiveByte completeFrame holdFrame
  split
  · exact h
  · split
    · next c hc =>
      split
      · exact h
      · refine ⟨fun _ => ?_, fun _ => rfl⟩
        show (s.rx.rxBuf.push b)[0].toNat ≤ 2
        rw [frameChip_eq_some.mp hc]
        omega
    · exact h

theorem kept_hold : KeptByAgents (fun s => HoldLegal s.hold s.tx.owner) where
  grant s _ h := by
    rw [openTx_hold]
    exact ⟨h.1, holdFull_of_arbitrate_frame⟩
  final s h := holdLegal_finalEffects h s.tx.owner
  byte b _ h := holdOk_receiveByte h b
  complete s h := holdLegal_finalEffects (s := runJobs _ s) (by simpa [HoldOk, HoldLegal] using h) s.tx.owner
  host p s h := by simpa using h.free
  frame c f s _ := by simpa [frameTransaction, frameFinal] using holdLegal_released _
  drop _ _ := holdLegal_released _
  sched js s h := by simpa [schedTransaction] using h.free

/-! ### The receiver (R36, R173) -/

/-- `ReceiverOk` with what it needs of the parameters. -/
def ReceiverLegal (timeout : Nat) (rx : Receiver) : Prop :=
  1 ≤ timeout ∧ rx.rxIdle < timeout ∧ (rx.rxCount = 0 → rx.rxIdle = 0)

/-- The idle counter at 0 is legal at any offset. -/
theorem receiverLegal_idle_zero {timeout : Nat} (h : 1 ≤ timeout) (buf : Vector Byte 16) (n : Fin 17) :
    ReceiverLegal timeout ⟨buf, n, 0⟩ :=
  ⟨h, h, fun _ => rfl⟩

theorem receiverLegal_receiveByte {s : State} (h : 1 ≤ s.cfg.rxTimeout) (b : Byte) :
    ReceiverLegal s.cfg.rxTimeout (receiveByte b s).rx := by
  unfold receiveByte
  split
  · exact receiverLegal_idle_zero h _ _
  · simpa using receiverLegal_idle_zero h _ _

theorem receiverLegal_receiveNothing {s : State} (h : ReceiverLegal s.cfg.rxTimeout s.rx) :
    ReceiverLegal s.cfg.rxTimeout (receiveNothing s).rx := by
  obtain ⟨h1, hlt, -⟩ := h
  unfold receiveNothing
  split_ifs with hc ht
  · exact receiverLegal_idle_zero h1 _ _
  · exact receiverLegal_idle_zero h1 _ _
  · refine ⟨h1, ?_, fun h0 => absurd h0 hc⟩
    show s.rx.rxIdle + 1 < s.cfg.rxTimeout
    omega

theorem kept_receiver : KeptByAgents (fun s => ReceiverLegal s.cfg.rxTimeout s.rx) where
  byte b s h := by simpa using receiverLegal_receiveByte (s := s) h.1 b
  silence s h := by simpa using receiverLegal_receiveNothing h
  timeout s h := receiverLegal_idle_zero h.1 _ _

/-! ### The tick divider (R33, R283) -/

/-- `TickOk` with what it needs of the parameters. -/
def TickLegal (cfg : Config) (m : Mode) (div : Nat) : Prop :=
  (∀ m', 1 ≤ cfg.tickPeriod m') ∧ div < cfg.tickPeriod m

@[simp] theorem raiseTick_tickDiv (s : State) : (raiseTick s).tick.tickDiv = s.tick.tickDiv := by
  unfold raiseTick
  split <;> rfl

@[simp] theorem grantEffects_tickDiv (x : Owner) (s : State) : (grantEffects x s).tick.tickDiv = s.tick.tickDiv := by
  cases x <;> simp only [grantEffects]
  case sched => rfl
  case frame => split <;> rfl

@[simp] theorem openTx_tickDiv (x : Owner) (s : State) : (openTx x s).tick.tickDiv = s.tick.tickDiv := by
  simp [openTx]

@[simp] theorem schedTransaction_tickDiv (js : List JobReq) (s : State) :
    (schedTransaction js s).tick.tickDiv = s.tick.tickDiv := by
  simp [schedTransaction]

/-- The divider wraps before it reaches the period (R283). -/
theorem tickLegal_tickCycle {s : State} (h : TickLegal s.cfg s.mode s.tick.tickDiv) :
    TickLegal s.cfg s.mode (tickCycle s).tick.tickDiv := by
  obtain ⟨h1, hlt⟩ := h
  refine ⟨h1, ?_⟩
  unfold tickCycle
  split
  · rw [raiseTick_tickDiv]
    exact h1 s.mode
  · show s.tick.tickDiv + 1 < _
    omega

theorem kept_tick : KeptByAgents (fun s => TickLegal s.cfg s.mode s.tick.tickDiv) where
  divider s h := by simpa using tickLegal_tickCycle h

/-! ### Settling the registers -/

theorem tickPeriod_pos {cfg : Config} (h : cfg.Wf) (m : Mode) : 1 ≤ cfg.tickPeriod m := by
  obtain ⟨-, -, -, -, -, hd, hr, -⟩ := h
  cases m
  · exact hd
  · exact hr

theorem rxTimeout_pos {cfg : Config} (h : cfg.Wf) : 1 ≤ cfg.rxTimeout := by
  obtain ⟨-, -, -, -, -, -, -, ht⟩ := h
  exact ht

/-- Settles O57: each register's invariant is kept by every agent and holds after a reset cycle. -/
theorem stepsKeepRegistersLegal : Obligations.StepsKeepRegistersLegal := by
  intro s t h
  refine ⟨fun hs => kept_status.step hs h (.inr ?_), fun hs => kept_hostErr.step hs h (.inr ?_),
    fun hs => kept_mem.step hs h (.inr ?_), fun hs => kept_hold.step hs h (.inr ?_),
    fun hw hs => (kept_receiver.step ⟨rxTimeout_pos hw, hs⟩ h (.inr ?_)).2,
    fun hw hs => (kept_tick.step ⟨tickPeriod_pos hw, hs⟩ h (.inr ?_)).2⟩ <;> intro i u hu
  · simp
  · simp
  · exact memOk_resetCycle hu i
  · simp [HoldLegal]
  · simpa using receiverLegal_idle_zero hu.1 _ 0
  · simpa [TickLegal] using ⟨hu.1, hu.1 i.cfgMode⟩

end Sys2Proof.Machine

namespace Sys2Proof.Machine

/-! ### READ_STATUS (R142) -/

/-- A command that issues no job leaves the bus, the shadow, the trace and the chips alone. -/
theorem busKept_hostTransaction {p : HostPlan} (h : p.jobs = []) (s : State) : BusKept s (hostTransaction p s) where
  bus := by simp [h]
  pins := by simp [h]
  shadow := by simp [h]
  trace := by simp [h]
  latch := by simp [h]
  image a := by simp [h]

/-- What no host command touches, when it leaves the strobes as they were. -/
theorem hostFrame_hostTransaction (p : HostPlan) {s : State} (h : StrobesKept s (hostTransaction p s)) :
    HostFrame s (hostTransaction p s) where
  common := ⟨by simp, by simp, by simp, by simp, by simp, by simp, h, by simp⟩
  effects := ⟨by simp, by simp, by simp⟩
  tickPending := by simp
  hold := by simp
  led := by simp
  hostCmd := by
    obtain ⟨-, -, hcmd, -⟩ := finishHost_host (runJobs p.jobs s) p
    simpa using hcmd

/-- Settles O14: READ_STATUS has no job; its end answers STATUS and clears it. -/
theorem readStatusReadsAndClears : Obligations.ReadStatusReadsAndClears := by
  intro s
  have hbus := busKept_hostTransaction (p := planReadStatus) rfl s
  refine ⟨hostTransaction planReadStatus s, rfl, ⟨rfl, rfl, rfl, rfl⟩, rfl, hostFrame_hostTransaction _ ?_, hbus⟩
  rw [StrobesKept, hbus.pins]
  exact ⟨rfl, rfl, rfl⟩

/-! ### The host port (R128, R145) -/

/-- The host registers after the transaction's part of a cycle: those of the command's end in a final cycle of HOST, and
untouched in any other cycle (R145). -/
theorem txCycle_host (s : State) :
    (txCycle s).host =
      if s.tx.owner = .host ∧ s.tx.txPhase = .final then (finishHost (hostPlan s.host.hostCmd s) s).host else s.host := by
  rcases txCycle_cases s with ⟨ho, -, h⟩ | ⟨ho, -, h⟩ | ⟨-, hp, h⟩ | ⟨-, hp, h⟩ <;> rw [h]
  · simp [ho]
  · simp [ho]
  · by_cases ho : s.tx.owner = .host
    · simp [ho, hp, finalEffects]
    · simp [ho, finalEffects_host_of_ne ho]
  · simp [hp]

/-- After the transaction's part of a cycle only the acceptance of an offer writes the host registers (R128). -/
theorem runCycle_host (i : PinsIn) (s : State) :
    (runCycle i s).host =
      if i.hValid = true ∧ s.host.hostPending = false then
        { (txCycle (clearDone s)).host with hostPending := true, hostCmd := i.hCmd }
      else (txCycle (clearDone s)).host := by
  unfold runCycle acceptHost
  cases i.hValid <;> cases s.host.hostPending <;> simp

/-- Settles O41: the port after the cycle is the acceptance applied to the end of the command, if there is one. -/
theorem hostPortTakesOneCommand : Obligations.HostPortTakesOneCommand := by
  intro s i hi
  simp only [cycle, hi, Bool.false_eq_true, if_false, runCycle_host, txCycle_host, clearDone_tx]
  by_cases hc : s.tx.owner = .host ∧ s.tx.txPhase = .final
  · obtain ⟨hpending, hdone, hcmd, -⟩ := finishHost_host (clearDone s) (hostPlan s.host.hostCmd (clearDone s))
    by_cases ha : i.hValid = true ∧ s.host.hostPending = false <;> simp [hc, ha, hpending, hdone, hcmd]
  · by_cases ha : i.hValid = true ∧ s.host.hostPending = false <;> simp [hc, ha]

/-! ### Reset (R310, R313) -/

/-- The latch of the chip whose job the reset cuts is not known afterwards; the others stay (R313, U5). -/
theorem resetCycle_latch_get (i : PinsIn) (s : State) (c : Chip) :
    (resetCycle i s).latch.get c = if s.be.beState ≠ .idle ∧ s.be.beJob.chip = c then none else s.latch.get c := by
  unfold resetCycle observeReset
  split
  · next h => simp [h]
  · next h => simp [h, chipLoses, Triple.get_set, eq_comm]

/-- The one address of a register is that of no other register (R60). -/
theorem chipRegAddr_in_cell (c c' : Chip) (a r : RegAddr) :
    (chipRegAddr c a ≤ chipRegAddr c' r ∧ chipRegAddr c' r < chipRegAddr c a + 1) ↔ c = c' ∧ a = r := by
  constructor
  · intro h
    exact chipRegAddr_inj (by omega)
  · rintro ⟨rfl, rfl⟩
    omega

/-- The 32 addresses of a chip are those of its registers and of no other chip's (R60). -/
theorem chipRegAddr_in_chip (c c' : Chip) (r : RegAddr) :
    (32 * c.val ≤ chipRegAddr c' r ∧ chipRegAddr c' r < 32 * c.val + 32) ↔ c = c' := by
  have hr := r.isLt
  unfold chipRegAddr
  constructor
  · intro h
    exact Fin.ext (by omega)
  · rintro rfl
    omega

/-- A reset that cuts a data strobe leaves the register unknown that the chip had latched, or, where the latch was unknown,
every register of the chip; the others stay (R313, log 10). -/
theorem resetCycle_mem_read (i : PinsIn) (s : State) (c : Chip) (r : RegAddr) :
    (resetCycle i s).mem.read (chipRegAddr c r) =
      if s.be.beState = .dst ∧ s.be.beJob.chip = c ∧ (s.latch.get c = some r ∨ s.latch.get c = none) then none
      else s.mem.read (chipRegAddr c r) := by
  unfold resetCycle observeReset
  split
  · next hidle => simp [hidle]
  · by_cases hd : s.be.beState = .dst
    · simp only [chipLoses, hd, decide_true, if_true, true_and]
      split
      · next a ha =>
        simp only [Memory.read_forget, chipRegAddr_in_cell]
        refine if_congr (and_congr_right fun hc => ?_) rfl rfl
        subst hc
        simp [ha]
      · next ha =>
        simp only [Memory.read_forget, chipRegAddr_in_chip]
        refine if_congr ⟨fun hc => ⟨hc, .inr ?_⟩, And.left⟩ rfl rfl
        subst hc
        exact ha
    · simp [chipLoses, hd]

@[simp] theorem Shadow.get_zero (i : ShIdx) : Shadow.zero.get i = 0 := by cases i <;> rfl

/-- Settles O37: the reset table, and what a cut job leaves unknown. -/
theorem resetCycleClearsEverything : Obligations.ResetCycleClearsEverything := by
  intro s i hi
  simp only [cycle, hi, if_true]
  refine ⟨by simp, by simp, by simp, by simp, by simp, by simp [State.shadowAt], ?_, by simp, by simp, by simp, by simp,
    by simp, by simp, by simp, by simp, by simp, by simp, by simp, by simp [hReady, hi], by simp [hReady, PinsIn.idle],
    by simp, resetCycle_latch_get i s, resetCycle_mem_read i s⟩
  simp [State.tsAt, State.spAt, TimerSynth.zero, SamplePlay.zero]

end Sys2Proof.Machine

namespace Sys2Proof.Machine

/-! ### The bus invariant: the sequencer (R43, R285) -/

/-- A free bus, a transaction in its jobs, or one in its final cycle: the three states of the sequencer (R43, R285). -/
theorem sequencerOk_iff {s : State} :
    SequencerOk s ↔ s.tx.txJobs.length ≤ 14 ∧
      ((s.tx.owner = .nobody ∧ s.be.beState = .idle ∧ s.tx.txPhase = .grant) ∨
      (s.tx.owner ≠ .nobody ∧ s.tx.txPhase = .jobs ∧ s.tx.txIdx < s.tx.txJobs.length) ∨
      (s.tx.owner ≠ .nobody ∧ s.tx.txPhase = .final ∧ s.be.beState = .idle ∧ s.tx.txIdx = s.tx.txJobs.length)) := by
  constructor
  · rintro ⟨hlen, hfree, htaken, hjobs, hfinal⟩
    refine ⟨hlen, ?_⟩
    by_cases ho : s.tx.owner = .nobody
    · exact .inl ⟨ho, hfree ho⟩
    · rcases htaken ho with hp | hp
      · exact .inr (.inl ⟨ho, hp, (hjobs hp).2⟩)
      · exact .inr (.inr ⟨ho, hp, (hfinal hp).2⟩)
  · rintro ⟨hlen, ⟨ho, hb, hp⟩ | ⟨ho, hp, hi⟩ | ⟨ho, hp, hb, hi⟩⟩ <;> simp [SequencerOk, *]

/-- The jobs of a grant: at most 14, and a requested fast write stands alone and is legal (R136, R179, R224). -/
def JobsLegal (js : List JobReq) (s : State) : Prop :=
  js.length ≤ 14 ∧ ∀ j ∈ js, j.kind = .fast → js = [j] ∧ fastOk j.chip j.reg s = true

theorem jobsLegal_nil (s : State) : JobsLegal [] s := ⟨by simp, by simp⟩

theorem jobsLegal_single {j : JobReq} {s : State} (h : j.kind = .fast → fastOk j.chip j.reg s = true) :
    JobsLegal [j] s := by
  refine ⟨by simp, fun k hk hf => ?_⟩
  obtain rfl := List.mem_singleton.mp hk
  exact ⟨rfl, h hf⟩

theorem jobsLegal_of_no_fast {js : List JobReq} (hlen : js.length ≤ 14) (h : ∀ j ∈ js, j.kind ≠ .fast) (s : State) :
    JobsLegal js s :=
  ⟨hlen, fun j hj hf => absurd hf (h j hj)⟩

/-- A host command has at most one job; the one of WRITE_FAST has passed its check (R129, R136). -/
theorem jobsLegal_planOf (i : Instr) (s : State) : JobsLegal (planOf i s).jobs s := by
  cases i
  case select chip =>
    simp only [planOf, planSelect]
    split
    · exact jobsLegal_nil s
    · exact jobsLegal_single (by simp)
  case write chip r v =>
    simp only [planOf, planWrite]
    split
    · exact jobsLegal_nil s
    · exact jobsLegal_single (by simp)
  case writeFast chip r v =>
    simp only [planOf, planWriteFast]
    split
    · exact jobsLegal_nil s
    · split
      · next hf => exact jobsLegal_single fun _ => hf
      · exact jobsLegal_nil s
  case rmw chip r o a =>
    simp only [planOf, planRmw]
    split
    · exact jobsLegal_nil s
    · split
      · exact jobsLegal_nil s
      · exact jobsLegal_single (by simp)
  case readShadow chip r =>
    simp only [planOf, planReadShadow]
    split
    · exact jobsLegal_nil s
    · split <;> exact jobsLegal_nil s
  all_goals exact jobsLegal_nil s

theorem jobsLegal_hostPlan (w : HostWord) (s : State) : JobsLegal (hostPlan w s).jobs s := by
  unfold hostPlan
  split
  · exact jobsLegal_planOf _ s
  · exact jobsLegal_nil s

theorem jobsLegal_frameJobs (c : Chip) (f : Frame) (s : State) : JobsLegal (frameJobs c f) s := by
  refine jobsLegal_of_no_fast (by simp [frameJobs, frameRegs]) (fun j hj => ?_) s
  obtain ⟨r, -, rfl⟩ := List.mem_map.mp hj
  simp

theorem jobsLegal_ampJobs (s : State) {ks : List (Fin 9)} (h : ks.length ≤ 14) : JobsLegal (ampJobs s ks) s := by
  have hlen : (ampJobs s ks).length ≤ ks.length := by
    simpa [ampJobs] using List.length_filter_le (fun cv : Chip × Voice => armed s cv.1 cv.2) (ks.map comboOf)
  refine jobsLegal_of_no_fast (hlen.trans h) (fun j hj => ?_) s
  obtain ⟨cv, -, rfl⟩ := List.mem_map.mp hj
  simp [ampJob]

theorem jobsLegal_schedJobs (s : State) : JobsLegal (schedJobs s) s := by
  unfold schedJobs
  split
  · exact jobsLegal_ampJobs s (by simp [allCombos])
  · exact jobsLegal_ampJobs s (by simp)

theorem jobsLegal_grantJobs (x : Owner) (s : State) : JobsLegal (grantJobs x s) s := by
  cases x <;> simp only [grantJobs]
  case nobody => exact jobsLegal_nil s
  case sched => exact jobsLegal_schedJobs s
  case frame =>
    split
    · exact jobsLegal_frameJobs _ _ s
    · exact jobsLegal_nil s
  case host => exact jobsLegal_hostPlan _ s

/-! ### The bus invariant: what it reads -/

/-- The bus invariant reads the parameters, the tracker, the pins, the phase and job of the engine, the sequencer and the
latches. -/
theorem BusInv.congr {s t : State} (h : BusInv s) (hcfg : t.cfg = s.cfg) (hbus : t.bus = s.bus) (hpins : t.pins = s.pins)
    (hstate : t.be.beState = s.be.beState) (hjob : t.be.beJob = s.be.beJob) (htx : t.tx = s.tx)
    (hlatch : ∀ c, t.latch.get c = s.latch.get c) : BusInv t where
  cfgWf := hcfg ▸ h.cfgWf
  sequencer := by simpa only [SequencerOk, htx, hstate] using h.sequencer
  pins := by simpa only [PinsOk, pinsOf, hcfg, hpins, hstate, hjob] using h.pins
  select := by simpa only [SelectOk, hcfg, hbus, hpins, hstate] using h.select
  running := by simpa only [RunningOk, hbus, hstate, hjob] using h.running
  waiting := by simpa only [FastOkWaiting, fastOk, hbus, hstate, htx] using h.waiting
  latch := by simpa only [LatchOk, hbus, hlatch] using h.latch

/-! ### The bus invariant: pins and chips over one clock edge (R62, R103) -/

theorem pinsOf_idem (cfg : Config) (be : Engine) (p : BusPins) :
    pinsOf cfg be (pinsOf cfg be p) = pinsOf cfg be p := by
  cases hb : be.beState <;> simp [pinsOf, hb]

theorem pinsOf_selO (cfg : Config) (be : Engine) (p : BusPins) :
    (pinsOf cfg be p).selO = if be.beState = .sel then cfg.selCode be.beJob.chip else p.selO := by
  cases hb : be.beState <;> simp [pinsOf, hb]

theorem pinsOf_asO (cfg : Config) (be : Engine) (p : BusPins) :
    (pinsOf cfg be p).asO = decide (be.beState = .ast) := by
  cases hb : be.beState <;> simp [pinsOf, hb]

theorem PinsOk.asO {s : State} (h : PinsOk s) : s.pins.asO = decide (s.be.beState = .ast) := by
  rw [h]
  exact pinsOf_asO _ _ _

theorem PinsOk.selO_of_sel {s : State} (h : PinsOk s) (hb : s.be.beState = .sel) :
    s.pins.selO = s.cfg.selCode s.be.beJob.chip := by
  rw [h, pinsOf_selO, if_pos hb]

theorem PinsOk.dO_of_ast {s : State} (h : PinsOk s) (hb : s.be.beState = .ast) :
    s.pins.dO = s.be.beJob.reg.setWidth 8 := by
  rw [h]
  simp [pinsOf, hb]

/-- A register address on `d_o` is read back from its low five bits (R62). -/
theorem regAddr_of_dO (r : RegAddr) : (r.setWidth 8 : Byte).extractLsb' 0 5 = r := by
  apply BitVec.eq_of_toNat_eq
  simpa using r.isLt

/-- An addressed chip latches `d_o[4:0]` at a falling edge of `as_o`; nothing else changes a latch (R62). -/
theorem chipSees_latch_get (old new : BusPins) (s : State) (c c' : Chip) :
    (chipSees old new s c).latch.get c' =
      if c' = c ∧ old.selO = s.cfg.selCode c' ∧ old.asO = true ∧ new.asO = false then some (old.dO.extractLsb' 0 5)
      else s.latch.get c' := by
  by_cases hc : c' = c
  · subst hc
    unfold chipSees addressed
    split_ifs <;> simp_all
  · rw [if_neg fun h => hc h.1]
    unfold chipSees
    split_ifs
    · exact Triple.get_set_ne _ hc _
    · simp
    · rfl
    · rfl

theorem observe_latch_get (old new : BusPins) (s : State) (c : Chip) :
    (observe old new s).latch.get c =
      if old.selO = s.cfg.selCode c ∧ old.asO = true ∧ new.asO = false then some (old.dO.extractLsb' 0 5)
      else s.latch.get c := by
  revert c
  refine Fin3.cases ?_ ?_ ?_ <;> simp [observe, chipSees_latch_get]

/-- The end of a clock cycle, from the pins before it: the pins of the new phase, and the chips' view of the edge. -/
def clockPins (old : BusPins) (u : State) : State := observe old (drivePins u).pins (drivePins u)

theorem clockPins_latch_get (old : BusPins) (u : State) (c : Chip) :
    (clockPins old u).latch.get c =
      if old.selO = u.cfg.selCode c ∧ old.asO = true ∧ u.be.beState ≠ .ast then some (old.dO.extractLsb' 0 5)
      else u.latch.get c := by
  simp [clockPins, observe_latch_get, pinsOf_asO]

@[simp] theorem clockPins_cfg (old : BusPins) (u : State) : (clockPins old u).cfg = u.cfg := by simp [clockPins]
@[simp] theorem clockPins_bus (old : BusPins) (u : State) : (clockPins old u).bus = u.bus := by simp [clockPins]
@[simp] theorem clockPins_be (old : BusPins) (u : State) : (clockPins old u).be = u.be := by simp [clockPins]
@[simp] theorem clockPins_tx (old : BusPins) (u : State) : (clockPins old u).tx = u.tx := by simp [clockPins]
@[simp] theorem clockPins_pins (old : BusPins) (u : State) : (clockPins old u).pins = pinsOf u.cfg u.be u.pins := by
  simp [clockPins]

/-- Where the pins already show the running phase, the edge changes nothing the invariant reads. -/
theorem BusInv.clockPins_same {u : State} (h : BusInv u) : BusInv (clockPins u.pins u) := by
  refine h.congr (by simp) (by simp) ?_ (by simp) (by simp) (by simp) fun c => ?_
  · rw [clockPins_pins]
    exact h.pins.symm
  · rw [clockPins_latch_get, if_neg]
    rintro ⟨-, has, hast⟩
    rw [h.pins.asO] at has
    exact hast (of_decide_eq_true has)

/-! ### The bus invariant: the end of a phase (R124, R125, R126) -/

theorem endPhase_bus_of_sel {s : State} (h : s.be.beState = .sel) :
    (endPhase s).bus = { s.bus with selCache := some s.be.beJob.chip, latchValid := false } := by
  simp [endPhase, h]

theorem endPhase_bus_of_ast {s : State} (h : s.be.beState = .ast) :
    (endPhase s).bus = { s.bus with latchValid := true, latchReg := s.be.beJob.reg } := by
  simp [endPhase, h]

theorem endPhase_bus_of_ne {s : State} (hsel : s.be.beState ≠ .sel) (hast : s.be.beState ≠ .ast) :
    (endPhase s).bus = s.bus := by
  unfold endPhase
  split
  case h_1 hb => exact absurd hb hsel
  case h_2 hb => exact absurd hb hast
  all_goals rfl

theorem endPhase_of_idle {s : State} (h : s.be.beState = .idle) : endPhase s = s := by simp [endPhase, h]

/-- Only a selection phase writes the selection cache (R124). -/
theorem endPhase_selCache {s : State} (hsel : s.be.beState ≠ .sel) :
    (endPhase s).bus.selCache = s.bus.selCache := by
  by_cases hast : s.be.beState = .ast
  · rw [endPhase_bus_of_ast hast]
  · rw [endPhase_bus_of_ne hsel hast]

/-- At the end of any phase the job's chip is the one selected. -/
theorem RunningOk.selCache_end {s : State} (h : RunningOk s) (hidle : s.be.beState ≠ .idle) :
    (endPhase s).bus.selCache = some s.be.beJob.chip := by
  obtain ⟨hcache, -⟩ := h
  by_cases hsel : s.be.beState = .sel
  · rw [endPhase_bus_of_sel hsel]
  · rw [endPhase_selCache hsel]
    exact hcache hidle hsel

/-- From the end of the address strobe on the job's register is the one latched. -/
theorem RunningOk.latched_end {s : State} (h : RunningOk s)
    (hb : s.be.beState = .ast ∨ s.be.beState = .ahd ∨ s.be.beState = .dsu ∨ s.be.beState = .dst) :
    (endPhase s).bus.latchValid = true ∧ (endPhase s).bus.latchReg = s.be.beJob.reg := by
  obtain ⟨-, hlatched, -⟩ := h
  by_cases hast : s.be.beState = .ast
  · rw [endPhase_bus_of_ast hast]
    exact ⟨rfl, rfl⟩
  · have hlate := hb.resolve_left hast
    have hsel : s.be.beState ≠ .sel := by rcases hlate with h | h | h <;> simp [h]
    rw [endPhase_bus_of_ne hsel hast]
    exact hlatched (by rcases hlate with h | h | h <;> simp [h])

/-- At the end of a phase the select code on the pins is that of the chip then cached. -/
theorem BusInv.selO_end {s : State} (h : BusInv s) {c : Chip} (hc : (endPhase s).bus.selCache = some c) :
    s.pins.selO = s.cfg.selCode c := by
  by_cases hsel : s.be.beState = .sel
  · rw [endPhase_bus_of_sel hsel] at hc
    cases hc
    exact h.pins.selO_of_sel hsel
  · rw [endPhase_selCache hsel] at hc
    exact h.select c hc hsel

/-- The latch that the end of a phase claims is the one the chip has after the edge: the falling edge of `as_o` latches what
the end of the address strobe writes down (R62, R125). -/
theorem BusInv.latchOk_clockPins {s u : State} (h : BusInv s) (hcfg : u.cfg = s.cfg) (hbus : u.bus = (endPhase s).bus)
    (hlatch : u.latch = s.latch) (hast : s.be.beState = .ast → u.be.beState ≠ .ast) : LatchOk (clockPins s.pins u) := by
  intro c hc hv
  rw [clockPins_bus, hbus] at hc hv ⊢
  rw [clockPins_latch_get, hcfg, hlatch]
  by_cases hb : s.be.beState = .ast
  · have has : s.pins.asO = true := by simp [h.pins.asO, hb]
    rw [if_pos ⟨h.selO_end hc, has, hast hb⟩, endPhase_bus_of_ast hb, h.pins.dO_of_ast hb]
    exact congrArg some (regAddr_of_dO _)
  · have has : s.pins.asO ≠ true := by simp [h.pins.asO, hb]
    rw [if_neg fun hn => has hn.2.1]
    by_cases hsel : s.be.beState = .sel
    · simp [endPhase_bus_of_sel hsel] at hv
    · rw [endPhase_bus_of_ne hsel hb] at hc hv ⊢
      exact h.latch c hc hv

/-- A cycle that ends a phase keeps the invariant, when what the engine does next keeps the sequencer's, the job's and the
waiting jobs' part of it. -/
theorem BusInv.clockPins_end {s u : State} (h : BusInv s) (hcfg : u.cfg = s.cfg) (hbus : u.bus = (endPhase s).bus)
    (hpins : u.pins = s.pins) (hlatch : u.latch = s.latch) (hast : s.be.beState = .ast → u.be.beState ≠ .ast)
    (hseq : SequencerOk u) (hrun : RunningOk u) (hwait : FastOkWaiting u) : BusInv (clockPins s.pins u) where
  cfgWf := by simpa only [clockPins_cfg, hcfg] using h.cfgWf
  sequencer := by simpa only [SequencerOk, clockPins_tx, clockPins_be] using hseq
  pins := by
    unfold PinsOk
    rw [clockPins_pins, clockPins_cfg, clockPins_be, pinsOf_idem]
  select := by
    intro c hc hsel
    rw [clockPins_bus, hbus] at hc
    rw [clockPins_be] at hsel
    rw [clockPins_pins, pinsOf_selO, if_neg hsel, hpins, clockPins_cfg, hcfg]
    exact h.selO_end hc
  running := by simpa only [RunningOk, clockPins_bus, clockPins_be] using hrun
  waiting := by simpa only [FastOkWaiting, fastOk, clockPins_bus, clockPins_be, clockPins_tx] using hwait
  latch := h.latchOk_clockPins hcfg hbus hlatch hast

end Sys2Proof.Machine

namespace Sys2Proof.Machine

/-! ### The bus invariant: the engine (R104, R127) -/

/-- The phase sequence of a job, read backwards (R104). -/
theorem nextPhase_eq_some {k : JobKind} {b p : BePhase} (h : nextPhase k b = some p) :
    (b = .sel ∧ k = .write ∧ p = .asu) ∨ (b = .asu ∧ p = .ast) ∨ (b = .ast ∧ p = .ahd) ∨ (b = .ahd ∧ p = .dsu) ∨
    (b = .dsu ∧ p = .dst) ∨ (b = .dst ∧ p = .dhd) := by
  cases b <;> cases k <;> simp_all [nextPhase]

/-- Phases that follow one another are none of them IDLE, and the later one is no selection (R104). -/
theorem nextPhase_busy {k : JobKind} {b p : BePhase} (h : nextPhase k b = some p) :
    b ≠ .idle ∧ p ≠ .idle ∧ p ≠ .sel := by
  rcases nextPhase_eq_some h with ⟨rfl, -, rfl⟩ | ⟨rfl, rfl⟩ | ⟨rfl, rfl⟩ | ⟨rfl, rfl⟩ | ⟨rfl, rfl⟩ | ⟨rfl, rfl⟩ <;> simp

/-- A running phase belongs to a taken bus in its jobs (R43). -/
theorem SequencerOk.jobs_of_busy {s : State} (h : SequencerOk s) (hb : s.be.beState ≠ .idle) :
    s.tx.owner ≠ .nobody ∧ s.tx.txPhase = .jobs ∧ s.tx.txIdx < s.tx.txJobs.length := by
  obtain ⟨-, ⟨-, hidle, -⟩ | hjobs | ⟨-, -, hidle, -⟩⟩ := sequencerOk_iff.mp h
  · exact absurd hidle hb
  · exact hjobs
  · exact absurd hidle hb

/-- The next phase of the running job (R104, R127). -/
theorem runningOk_enterPhase {s : State} (h : RunningOk s) {p : BePhase}
    (hp : nextPhase s.be.beJob.kind s.be.beState = some p) : RunningOk (enterPhase p (endPhase s)) := by
  have hnext := nextPhase_eq_some hp
  obtain ⟨hbusy, -, hnosel⟩ := nextPhase_busy hp
  have ⟨_, _, _, hwrite⟩ := h
  refine ⟨fun _ _ => ?_, fun hlate => ?_, fun hsel => ?_, fun hsetup => ?_⟩ <;>
    simp only [enterPhase_be, enterPhase_bus, endPhase_be] at *
  · exact h.selCache_end hbusy
  · refine h.latched_end ?_
    rcases hnext with ⟨-, -, rfl⟩ | ⟨-, rfl⟩ | ⟨hb, -⟩ | ⟨hb, -⟩ | ⟨hb, -⟩ | ⟨hb, -⟩
    · simp at hlate
    · simp at hlate
    all_goals simp [hb]
  · exact absurd hsel hnosel
  · rcases hnext with ⟨-, hk, -⟩ | ⟨hb, -⟩ | ⟨hb, -⟩ | ⟨-, rfl⟩ | ⟨-, rfl⟩ | ⟨-, rfl⟩
    · exact hk
    · exact hwrite (.inl hb)
    · exact hwrite (.inr (.inl hb))
    all_goals simp at hsetup

/-- An idle engine runs no job. -/
theorem runningOk_of_idle {s : State} (h : s.be.beState = .idle) : RunningOk s := by simp [RunningOk, h]

@[simp] theorem resolve_chip (j : JobReq) (s : State) : (resolve j s).chip = j.chip := rfl
@[simp] theorem resolve_reg (j : JobReq) (s : State) : (resolve j s).reg = j.reg := rfl
@[simp] theorem startJob_beState (j : JobReq) (s : State) :
    (startJob j s).be.beState = firstPhase (resolve j s) s := rfl
@[simp] theorem startJob_beJob (j : JobReq) (s : State) : (startJob j s).be.beJob = resolve j s := rfl

/-- A fast write is resolved from a legal amplitude job or from a request for one (R127, R230). -/
theorem resolve_kind_fast {j : JobReq} {s : State} (h : (resolve j s).kind = .fast) :
    j.kind = .fast ∨ fastOk j.chip j.reg s = true := by
  cases hk : j.kind <;> simp_all [resolve]

theorem firstPhase_ne_idle (j : Job) (s : State) : firstPhase j s ≠ .idle := by
  unfold firstPhase
  split
  · simp
  · split <;> simp
  · simp

/-- The first phase of a job: a fast one starts only where it is legal (R127, R133). -/
theorem runningOk_startJob {j : JobReq} {s : State} (h : j.kind = .fast → fastOk j.chip j.reg s = true) :
    RunningOk (startJob j s) := by
  cases hk : (resolve j s).kind
  case select => simp [RunningOk, firstPhase, hk]
  case write => by_cases hc : s.bus.selCache = some j.chip <;> simp [RunningOk, firstPhase, hk, hc]
  case fast =>
    obtain ⟨hc, hv, hr⟩ := fastOk_iff.mp ((resolve_kind_fast hk).elim h id)
    simp [RunningOk, firstPhase, hk, hc, hv, hr]

/-- A requested fast write, when its turn comes, is legal: it is the first and only job, and the engine was idle (R136). -/
theorem BusInv.fastOk_next {s : State} (h : BusInv s) (ho : s.tx.owner ≠ .nobody) {j : JobReq}
    (hj : s.tx.txJobs[nextIdx s]? = some j) (hk : j.kind = .fast) : fastOk j.chip j.reg (endPhase s) = true := by
  obtain ⟨halone, hlegal⟩ := h.waiting j (List.mem_of_getElem? hj) hk
  obtain ⟨hidx, -⟩ := List.getElem?_eq_some_iff.mp hj
  have hidle : s.be.beState = .idle := by
    by_contra hb
    simp [halone, nextIdx, hb] at hidx
  simp only [nextIdx, hidle, if_true] at hidx
  rw [endPhase_of_idle hidle]
  obtain ⟨-, ⟨hfree, -⟩ | ⟨-, hjobs, -⟩ | ⟨-, -, -, hi⟩⟩ := sequencerOk_iff.mp h.sequencer
  · exact absurd hfree ho
  · exact hlegal ho hjobs hidle
  · omega

/-- No job is left exactly when the index is past the last one (R43, R127). -/
theorem BusInv.nextIdx_eq_length {s : State} (h : BusInv s) (ho : s.tx.owner ≠ .nobody)
    (hj : s.tx.txJobs[nextIdx s]? = none) : nextIdx s = s.tx.txJobs.length := by
  have hge := List.getElem?_eq_none_iff.mp hj
  obtain ⟨-, ⟨hfree, -⟩ | ⟨-, -, hi⟩ | ⟨-, -, hidle, hi⟩⟩ := sequencerOk_iff.mp h.sequencer
  · exact absurd hfree ho
  · unfold nextIdx at hge ⊢
    split at hge <;> simp_all <;> omega
  · simpa [nextIdx, hidle] using hi

/-- A job is waiting only in the jobs of a transaction. -/
theorem BusInv.jobs_of_next {s : State} (h : BusInv s) (ho : s.tx.owner ≠ .nobody) {j : JobReq}
    (hj : s.tx.txJobs[nextIdx s]? = some j) : s.tx.txPhase = .jobs := by
  obtain ⟨hidx, -⟩ := List.getElem?_eq_some_iff.mp hj
  obtain ⟨-, ⟨hfree, -⟩ | ⟨-, hjobs, -⟩ | ⟨-, -, hidle, hi⟩⟩ := sequencerOk_iff.mp h.sequencer
  · exact absurd hfree ho
  · exact hjobs
  · simp only [nextIdx, hidle, if_true] at hidx
    omega

/-- The jobs waiting behind a running phase: none of them is a fast write still to be checked. -/
theorem fastOkWaiting_of_busy {s t : State} (h : FastOkWaiting s) (hjobs : t.tx.txJobs = s.tx.txJobs)
    (hb : t.tx.owner ≠ .nobody → t.tx.txPhase = .jobs → t.be.beState ≠ .idle) : FastOkWaiting t := by
  intro j hj hk
  rw [hjobs] at hj ⊢
  exact ⟨(h j hj hk).1, fun ho hp hidle => absurd hidle (hb ho hp)⟩

/-- After a job: the engine is idle on a free bus, starts the next job, or has reached the final cycle (R127, R285). -/
theorem BusInv.after_nextJob {s : State} (h : BusInv s) :
    SequencerOk (nextJob (endPhase s)) ∧ RunningOk (nextJob (endPhase s)) ∧ FastOkWaiting (nextJob (endPhase s)) := by
  obtain ⟨hlen, hphase⟩ := sequencerOk_iff.mp h.sequencer
  have hidx : nextIdx (endPhase s) = nextIdx s := by simp [nextIdx]
  rcases nextJob_cases (endPhase s) with ⟨ho, e⟩ | ⟨j, ho, hj, e⟩ | ⟨ho, hj, e⟩ <;> rw [e] <;>
    simp only [hidx, endPhase_tx] at ho ⊢
  case inl =>
    refine ⟨sequencerOk_iff.mpr ⟨by simpa using hlen, .inl ⟨by simpa using ho, rfl, ?_⟩⟩, runningOk_of_idle rfl,
      fastOkWaiting_of_busy h.waiting (by simp) fun hn => absurd (by simpa using ho) hn⟩
    simp only [ho, ne_eq, not_true_eq_false, false_and, or_false, true_and] at hphase
    exact hphase.2
  case inr.inl =>
    simp only [hidx, endPhase_tx] at hj
    obtain ⟨hlt, -⟩ := List.getElem?_eq_some_iff.mp hj
    exact ⟨sequencerOk_iff.mpr ⟨hlen, .inr (.inl ⟨ho, h.jobs_of_next ho hj, hlt⟩)⟩,
      runningOk_startJob fun hk => h.fastOk_next ho hj hk,
      fastOkWaiting_of_busy h.waiting rfl fun _ _ => firstPhase_ne_idle _ _⟩
  case inr.inr =>
    simp only [hidx, endPhase_tx] at hj
    have hfinal : (if s.tx.txPhase = .jobs then TxPhase.final else s.tx.txPhase) = .final := by
      rcases hphase with ⟨hn, -⟩ | ⟨-, hp, -⟩ | ⟨-, hp, -⟩
      · exact absurd hn ho
      · simp [hp]
      · simp [hp]
    exact ⟨sequencerOk_iff.mpr ⟨hlen, .inr (.inr ⟨ho, hfinal, rfl, h.nextIdx_eq_length ho hj⟩)⟩, runningOk_of_idle rfl,
      fastOkWaiting_of_busy h.waiting rfl fun _ hp => absurd (hfinal.symm.trans hp) (by simp)⟩

/-- The engine's step and the clock edge after it keep the bus invariant (R62, R103, R127). -/
theorem BusInv.after_engineCycle {s : State} (h : BusInv s) : BusInv (clockPins s.pins (engineCycle s)) := by
  have hlen := h.sequencer.1
  rcases engineCycle_cases s with ⟨-, -, e⟩ | ⟨p, -, hp, e⟩ | ⟨-, hnone, e⟩ <;> rw [e]
  case inl => exact BusInv.clockPins_same (h.congr rfl rfl rfl rfl rfl rfl fun _ => rfl)
  case inr.inl =>
    obtain ⟨hbusy, hp', -⟩ := nextPhase_busy hp
    refine h.clockPins_end (by simp) (by simp) (by simp) (by simp) (fun hast => ?_) ?_
      (runningOk_enterPhase h.running hp) (fastOkWaiting_of_busy h.waiting (by simp) fun _ _ => hp')
    · simp [hast, nextPhase] at hp
      simp [← hp]
    · exact sequencerOk_iff.mpr ⟨by simpa using hlen, .inr (.inl (by simpa using h.sequencer.jobs_of_busy hbusy))⟩
  case inr.inr =>
    have hast : s.be.beState ≠ .ast := fun hb => by simp [hb, nextPhase] at hnone
    obtain ⟨hseq, hrun, hwait⟩ := h.after_nextJob
    exact h.clockPins_end (by simp) (by simp) (by simp) (by simp) (fun hb => absurd hb hast) hseq hrun hwait

end Sys2Proof.Machine

namespace Sys2Proof.Machine

/-! ### The bus invariant: grants and ends of transactions (R281, R285) -/

/-- A free bus is an idle one (R285). -/
theorem BusInv.idle_of_free {s : State} (h : BusInv s) (ho : s.tx.owner = .nobody) : s.be.beState = .idle := by
  obtain ⟨-, ⟨-, hidle, -⟩ | ⟨hn, -⟩ | ⟨hn, -⟩⟩ := sequencerOk_iff.mp h.sequencer
  · exact hidle
  · exact absurd ho hn
  · exact absurd ho hn

/-- The engine is idle in a final cycle (R285). -/
theorem BusInv.idle_of_final {s : State} (h : BusInv s) (hp : s.tx.txPhase = .final) : s.be.beState = .idle := by
  obtain ⟨-, ⟨-, hidle, -⟩ | ⟨-, hj, -⟩ | ⟨-, -, hidle, -⟩⟩ := sequencerOk_iff.mp h.sequencer
  · exact hidle
  · simp [hp] at hj
  · exact hidle

theorem openTx_tx (x : Owner) (s : State) :
    (openTx x s).tx = ⟨x, if (grantJobs x s).isEmpty then .final else .jobs, grantJobs x s, 0⟩ := rfl

/-- A grant on an idle bus keeps the invariant: its jobs are legal in the state of the grant (R285). -/
theorem BusInv.openTx {s : State} (h : BusInv s) {x : Owner} (hx : x ≠ .nobody) (hidle : s.be.beState = .idle) :
    BusInv (openTx x s) where
  cfgWf := by simpa using h.cfgWf
  sequencer := by
    obtain ⟨hlen, -⟩ := jobsLegal_grantJobs x s
    refine sequencerOk_iff.mpr ⟨hlen, .inr ?_⟩
    rw [openTx_tx, openTx_be]
    cases hj : grantJobs x s <;> simp [hx, hidle]
  pins := by simpa [PinsOk] using h.pins
  select := by simpa [SelectOk] using h.select
  running := runningOk_of_idle (by simpa using hidle)
  waiting := by
    obtain ⟨-, hfast⟩ := jobsLegal_grantJobs x s
    intro j hj hk
    obtain ⟨halone, hok⟩ := hfast j hj hk
    exact ⟨halone, fun _ _ _ => by simpa [fastOk] using hok⟩
  latch := by simpa [LatchOk] using h.latch

/-- The final cycle frees the bus and touches nothing else the invariant reads (R281, R285). -/
theorem BusInv.release {s : State} (h : BusInv s) (hp : s.tx.txPhase = .final) :
    BusInv (releaseBus (finalEffects s.tx.owner s)) where
  cfgWf := by simpa using h.cfgWf
  sequencer := by
    obtain ⟨hlen, -⟩ := sequencerOk_iff.mp h.sequencer
    exact sequencerOk_iff.mpr ⟨by simpa using hlen, .inl ⟨rfl, by simpa using h.idle_of_final hp, rfl⟩⟩
  pins := by simpa [PinsOk] using h.pins
  select := by simpa [SelectOk] using h.select
  running := runningOk_of_idle (by simpa using h.idle_of_final hp)
  waiting := fastOkWaiting_of_busy h.waiting (by simp) fun hn => absurd rfl hn
  latch := by simpa [LatchOk] using h.latch

/-- One clock cycle of the transaction, to the edge that ends it (R290). -/
theorem BusInv.after_txCycle {s : State} (h : BusInv s) : BusInv (clockPins s.pins (txCycle s)) := by
  rcases txCycle_cases s with ⟨-, -, e⟩ | ⟨ho, ha, e⟩ | ⟨-, hp, e⟩ | ⟨-, -, e⟩ <;> rw [e]
  · exact h.after_engineCycle
  · simpa using (h.openTx ha (h.idle_of_free ho)).after_engineCycle
  · simpa using (h.release hp).clockPins_same
  · exact h.after_engineCycle

/-- The end of `h_done_o`'s pulse, the receiver, the tick generator and the host port are no part of the bus (R290). -/
theorem BusInv.runCycle {s : State} (h : BusInv s) (i : PinsIn) : BusInv (runCycle i s) := by
  have hdone : BusInv (clearDone s) := h.congr rfl rfl rfl rfl rfl rfl fun _ => rfl
  have hrun : Machine.runCycle i s = acceptHost i s.host.hostPending
      (tickCycle (receiverCycle i (clockPins s.pins (Machine.txCycle (clearDone s))))) := rfl
  rw [hrun]
  exact hdone.after_txCycle.congr (by simp) (by simp) (by simp) (by simp) (by simp) (by simp) (by simp)

/-! ### The bus invariant: transactions as atomic steps (R121, R286, R291) -/

/-- All strobes are down. -/
def StrobesDown (p : BusPins) : Prop := p.selStbO = false ∧ p.asO = false ∧ p.dsO = false

/-- What the bus invariant says of a bus on which no phase runs. -/
structure QuietBus (s : State) : Prop where
  idle : s.be.beState = .idle
  strobes : StrobesDown s.pins
  select : ∀ c, s.bus.selCache = some c → s.pins.selO = s.cfg.selCode c
  latch : LatchOk s

theorem pinsOk_iff_of_idle {s : State} (h : s.be.beState = .idle) : PinsOk s ↔ StrobesDown s.pins := by
  simp only [PinsOk, pinsOf, h, StrobesDown]
  rcases s.pins with ⟨sel, stb, as, ds, d⟩
  simp

theorem BusInv.quiet {s : State} (h : BusInv s) (hidle : s.be.beState = .idle) : QuietBus s where
  idle := hidle
  strobes := (pinsOk_iff_of_idle hidle).mp h.pins
  select c hc := h.select c hc (by simp [hidle])
  latch := h.latch

/-- What a quiet bus reads. -/
theorem QuietBus.congr {s t : State} (h : QuietBus s) (hcfg : t.cfg = s.cfg) (hbus : t.bus = s.bus)
    (hpins : t.pins = s.pins) (hbe : t.be = s.be) (hlatch : t.latch = s.latch) : QuietBus t where
  idle := hbe ▸ h.idle
  strobes := hpins ▸ h.strobes
  select := by simpa only [hcfg, hbus, hpins] using h.select
  latch := by simpa only [LatchOk, hbus, hlatch] using h.latch

/-- `BusSelect` caches the chip whose code it drives, and forgets the latched address (R124). -/
theorem QuietBus.busSelect {s : State} (h : QuietBus s) (c : Chip) : QuietBus (busSelect c s) where
  idle := h.idle
  strobes := h.strobes
  select := by simp
  latch := by simp [LatchOk]

theorem QuietBus.selectIfNeeded {s : State} (h : QuietBus s) (c : Chip) : QuietBus (selectIfNeeded c s) := by
  unfold Machine.selectIfNeeded
  split
  · exact h
  · exact h.busSelect c

/-- A full write leaves its chip selected, its register latched, and the strobes down (R121). -/
theorem QuietBus.busWrite {s : State} (h : QuietBus s) (c : Chip) (r : RegAddr) (v : Byte) :
    QuietBus (busWrite c r v s) := by
  have hsel := h.selectIfNeeded c
  have hpins : (Machine.busWrite c r v s).pins = { (Machine.selectIfNeeded c s).pins with dO := v &&& maskOf r } := by
    simp [Machine.busWrite, dataPhase_pins]
  refine ⟨by simpa using h.idle, hpins ▸ hsel.strobes, fun c' hc => ?_, fun c' hc _ => ?_⟩
  · simp only [busWrite_bus] at hc
    cases hc
    simpa [hpins] using hsel.select c (selectIfNeeded_selCache s c)
  · simp only [busWrite_bus] at hc
    cases hc
    simp

theorem QuietBus.busWriteFast {s : State} (h : QuietBus s) (c : Chip) (r : RegAddr) (v : Byte) :
    QuietBus (busWriteFast c r v s) := by
  have hpins : (Machine.busWriteFast c r v s).pins = { s.pins with dO := v &&& maskOf r } := dataPhase_pins s c r _
  exact ⟨by simpa using h.idle, hpins ▸ h.strobes, by simpa [hpins] using h.select, by simpa [LatchOk] using h.latch⟩

theorem QuietBus.runJob {s : State} (h : QuietBus s) (j : JobReq) : QuietBus (runJob s j) := by
  rcases runJob_cases s j with ⟨-, e⟩ | ⟨-, e⟩ | ⟨-, e⟩ | ⟨-, -, e⟩ | ⟨-, -, e⟩ <;> rw [e]
  · exact h.busSelect _
  · exact h.busWrite _ _ _
  · exact h.busWriteFast _ _ _
  · exact h.busWriteFast _ _ _
  · exact h.busWrite _ _ _

theorem QuietBus.runJobs {s : State} (h : QuietBus s) (js : List JobReq) : QuietBus (runJobs js s) :=
  runJobs_keeps (P := QuietBus) (fun _ j hs => hs.runJob j) js h

/-- The end of an atomic transaction: a quiet bus set free meets the invariant (R281, R286). -/
theorem QuietBus.closeTx {s : State} (h : QuietBus s) (hcfg : s.cfg.Wf) {js : List JobReq} (hlen : js.length ≤ 14)
    (hfast : ∀ j ∈ js, j.kind = .fast → js = [j]) : BusInv (closeTx js s) where
  cfgWf := hcfg
  sequencer := sequencerOk_iff.mpr ⟨hlen, .inl ⟨rfl, h.idle, rfl⟩⟩
  pins := (pinsOk_iff_of_idle (s := Machine.closeTx js s) h.idle).mpr h.strobes
  select c hc _ := h.select c hc
  running := runningOk_of_idle h.idle
  waiting j hj hk := ⟨hfast j hj hk, fun hn => absurd rfl hn⟩
  latch := h.latch

/-- A transaction whose jobs are those of a grant. -/
theorem QuietBus.closeTx_legal {s u : State} (h : QuietBus s) (hcfg : s.cfg.Wf) {js : List JobReq} (hjs : JobsLegal js u) :
    BusInv (Machine.closeTx js s) :=
  h.closeTx hcfg hjs.1 fun j hj hk => (hjs.2 j hj hk).1

theorem BusInv.transaction {s t : State} (h : BusInv s) (ht : transaction s = .next t) : BusInv t := by
  have hquiet : arbitrate s ≠ .nobody → QuietBus s := fun ha => h.quiet (h.idle_of_free (owner_of_arbitrate s ha))
  have hcfg := h.cfgWf
  rcases transaction_cases ht with ⟨ha, rfl⟩ | ⟨c, ha, -, rfl⟩ | ⟨ha, -, rfl⟩ | ⟨ha, rfl⟩ <;>
    have q := hquiet (by simp [ha])
  · have hq := (q.runJobs (hostPlan s.host.hostCmd s).jobs)
    exact QuietBus.closeTx_legal (hq.congr (by simp) (by simp) (by simp) (by simp) (by simp)) (by simpa using hcfg)
      (jobsLegal_hostPlan _ s)
  · have hstart : QuietBus (toggleLed c (clearDone s)) := q.congr rfl rfl rfl rfl rfl
    have hq := hstart.runJobs (frameJobs c s.hold.hold)
    exact QuietBus.closeTx_legal (hq.congr (by simp) (by simp) (by simp) (by simp) (by simp)) (by simpa using hcfg)
      (jobsLegal_frameJobs c _ s)
  · have hend : QuietBus (dropHeld (clearDone s)) := q.congr rfl rfl rfl rfl rfl
    exact hend.closeTx_legal hcfg (jobsLegal_nil s)
  · have hstart : QuietBus (takeTick (clearDone s)) := q.congr rfl rfl rfl rfl rfl
    have hend : QuietBus (advance (Machine.runJobs (schedJobs s) (takeTick (clearDone s)))) :=
      (hstart.runJobs (schedJobs s)).congr rfl rfl rfl rfl rfl
    exact hend.closeTx_legal (by simpa using hcfg) (jobsLegal_schedJobs s)

/-- `Complete` runs the jobs left and frees the bus (R291). -/
theorem BusInv.completeTx {s : State} (h : BusInv s) (hidle : s.be.beState = .idle) : BusInv (completeTx s) := by
  have hq := (h.quiet hidle).runJobs (s.tx.txJobs.drop s.tx.txIdx)
  obtain ⟨hlen, -⟩ := sequencerOk_iff.mp h.sequencer
  exact QuietBus.closeTx (hq.congr (by simp) (by simp) (by simp) (by simp) (by simp)) (by simpa using h.cfgWf) hlen
    fun j hj hk => (h.waiting j hj hk).1

theorem BusInv.event {e : Event} {s t : State} (h : BusInv s) (he : event e s = .next t) : BusInv t := by
  have hdone : BusInv (clearDone s) := h.congr rfl rfl rfl rfl rfl rfl fun _ => rfl
  rcases event_cases he with ⟨b, -, rfl⟩ | ⟨-, -, rfl⟩ | ⟨-, rfl⟩ | ⟨w, -, -, rfl⟩ | ⟨x, -, hx, -, hidle, rfl⟩ |
    ⟨-, -, hidle, rfl⟩
  · exact hdone.congr (by simp) (by simp) (by simp) (by simp) (by simp) (by simp) (by simp)
  · exact hdone.congr rfl rfl rfl rfl rfl rfl fun _ => rfl
  · exact hdone.congr (by simp) (by simp) (by simp) (by simp) (by simp) (by simp) (by simp)
  · exact hdone.congr rfl rfl rfl rfl rfl rfl fun _ => rfl
  · exact hdone.openTx hx hidle
  · exact hdone.completeTx hidle

/-- A reset frees the bus and forgets which chip is selected (R310). -/
theorem busInv_resetCycle {s : State} (h : s.cfg.Wf) (i : PinsIn) : BusInv (resetCycle i s) where
  cfgWf := by simpa using h
  sequencer := sequencerOk_iff.mpr (by simp)
  pins := by simp [PinsOk, pinsOf]
  select := by simp [SelectOk]
  running := runningOk_of_idle (by simp)
  waiting := by simp [FastOkWaiting]
  latch := by simp [LatchOk]

/-- Settles O58: level C by the edge that ends a phase, level T by the quiet bus between jobs. -/
theorem stepsKeepBusInv : Obligations.StepsKeepBusInv :=
  fun _ _ hs h => step_keeps (fun _ _ hu => hu.congr rfl rfl rfl rfl rfl rfl fun _ => rfl)
    (fun i _ hu => BusInv.runCycle hu i) (fun _ _ _ hu he => BusInv.event hu he)
    (fun _ _ hu ht => BusInv.transaction hu ht) hs h (.inr fun i _ hu => busInv_resetCycle hu.cfgWf i)

end Sys2Proof.Machine

/-! # Proofs: memory (20_memory.md) -/

namespace Sys2Proof.Machine

/-! ### The ideal chips over the edge that ends a phase (R62) -/

/-- Select codes tell the chips apart (D5, R105). -/
theorem selCode_injective {cfg : Config} (h : cfg.Wf) {c d : Chip} (hcd : cfg.selCode c = cfg.selCode d) : c = d := by
  obtain ⟨-, ⟨h01, h02, h12⟩, -⟩ := h
  by_contra hne
  fin_cases c <;> fin_cases d <;> simp_all

/-- A chip that is not addressed sees nothing (R62). -/
theorem chipSees_of_not_addressed {old : BusPins} {s : State} {c : Chip} (h : old.selO ≠ s.cfg.selCode c)
    (new : BusPins) : chipSees old new s c = s := by
  simp [chipSees, addressed, h]

/-- An edge at which no strobe falls changes no chip (R62). -/
theorem observe_of_no_edge {old new : BusPins} (has : old.asO = true → new.asO = true)
    (hds : old.dsO = true → new.dsO = true) (s : State) : observe old new s = s := by
  have hchip : ∀ c u, chipSees old new u c = u := by
    intro c u
    unfold chipSees
    split_ifs <;> simp_all
  simp [observe, hchip]

/-- Of the three chips the addressed one alone sees an edge (R62, R105). -/
theorem observe_of_addressed {old : BusPins} {s : State} (h : s.cfg.Wf) {c : Chip} (hc : old.selO = s.cfg.selCode c)
    (new : BusPins) : observe old new s = chipSees old new s c := by
  have hother : ∀ d u, u.cfg = s.cfg → d ≠ c → chipSees old new u d = u := by
    intro d u hu hd
    refine chipSees_of_not_addressed (fun hsel => hd ?_) new
    rw [hu, hc] at hsel
    exact (selCode_injective h hsel).symm
  unfold observe
  fin_cases c <;> simp [hother]

/-- What the end of a running phase does to the chip of its job: the address strobe latches, the data strobe stores (R62). -/
def chipEnd (be : Engine) (s : State) : State :=
  match be.beState with
  | .ast => chipLatches be.beJob.chip be.beJob.reg s
  | .dst => chipStores be.beJob.chip be.beJob.vm s
  | .idle | .sel | .asu | .ahd | .dsu | .dhd => s

theorem pinsOf_dsO (cfg : Config) (be : Engine) (p : BusPins) :
    (pinsOf cfg be p).dsO = decide (be.beState = .dst) := by
  cases hb : be.beState <;> simp [pinsOf, hb]

theorem PinsOk.dsO {s : State} (h : PinsOk s) : s.pins.dsO = decide (s.be.beState = .dst) := by
  rw [h]
  exact pinsOf_dsO _ _ _

theorem PinsOk.dO_of_dst {s : State} (h : PinsOk s) (hb : s.be.beState = .dst) : s.pins.dO = s.be.beJob.vm := by
  rw [h]
  simp [pinsOf, hb]

/-- After its selection phase the job's chip is the one on the select lines. -/
theorem BusInv.selO_of_busy {s : State} (h : BusInv s) (hidle : s.be.beState ≠ .idle) (hsel : s.be.beState ≠ .sel) :
    s.pins.selO = s.cfg.selCode s.be.beJob.chip := by
  obtain ⟨hcache, -⟩ := h.running
  exact h.select _ (hcache hidle hsel) hsel

/-- Over the edge at which the running phase ends, the chips do what the end of that phase says: the pins carry the job's
register and value to its chip and to no other (R62, R103). -/
theorem BusInv.clockPins_end_eq {s u : State} (h : BusInv s) (hcfg : u.cfg = s.cfg)
    (hend : s.be.beState = .ast ∨ s.be.beState = .dst → u.be.beState ≠ s.be.beState) :
    clockPins s.pins u = chipEnd s.be (drivePins u) := by
  have has := h.pins.asO
  have hds := h.pins.dsO
  have hwf : (drivePins u).cfg.Wf := by simpa [hcfg] using h.cfgWf
  cases hb : s.be.beState
  case ast =>
    have hsel : s.pins.selO = (drivePins u).cfg.selCode s.be.beJob.chip := by
      simpa [hcfg] using h.selO_of_busy (by simp [hb]) (by simp [hb])
    have hnew : (drivePins u).pins.asO = false := by simpa [pinsOf_asO, hb] using hend (.inl hb)
    rw [clockPins, observe_of_addressed hwf hsel]
    simp only [chipSees, addressed, hsel, has, hb, hnew, h.pins.dO_of_ast hb, chipEnd]
    simp [regAddr_of_dO]
  case dst =>
    have hsel : s.pins.selO = (drivePins u).cfg.selCode s.be.beJob.chip := by
      simpa [hcfg] using h.selO_of_busy (by simp [hb]) (by simp [hb])
    have hnew : (drivePins u).pins.dsO = false := by simpa [pinsOf_dsO, hb] using hend (.inr hb)
    rw [clockPins, observe_of_addressed hwf hsel]
    simp only [chipSees, addressed, hsel, has, hds, hb, hnew, h.pins.dO_of_dst hb, chipEnd]
    simp
  all_goals
    simp only [hb, reduceCtorEq, decide_false] at has hds
    simp [clockPins, observe_of_no_edge, has, hds, chipEnd, hb]

/-- Where the pins show the running phase already, a clock edge does nothing. -/
theorem clockPins_of_pinsOk {u : State} (h : PinsOk u) : clockPins u.pins u = u := by
  have hdrive : drivePins u = u := by
    unfold drivePins
    rw [← h]
  rw [clockPins, hdrive]
  exact observe_of_no_edge id id u

/-! ### The shadow and the chips (R75) -/

/-- The agreement reads the image and the shadow alone. -/
theorem ShadowAgrees.congr {s t : State} (h : ShadowAgrees s) (hmem : t.mem = s.mem) (hshadow : t.shadow = s.shadow) :
    ShadowAgrees t := by
  simpa only [ShadowAgrees, State.shadowAt, hmem, hshadow] using h

/-- A byte stored in a register and written down for that register keeps the agreement (R62, R126). -/
theorem ShadowAgrees.store {s t : State} (h : ShadowAgrees s) {c : Chip} {r : RegAddr} {v : Byte}
    (hmem : t.mem = s.mem.write (chipRegAddr c r) v) (hshadow : t.shadow = shadowAfter c r v s.shadow) :
    ShadowAgrees t := by
  intro c' i b hb
  rw [State.shadowAt, hshadow, shadowAfter_get]
  rw [hmem] at hb
  by_cases hat : c' = c ∧ r = shReg i
  · obtain ⟨rfl, rfl⟩ := hat
    rw [Memory.read_write_same] at hb
    rw [if_pos ⟨rfl, rfl⟩]
    exact (Option.some.inj hb).symm
  · have hne : chipRegAddr c' (shReg i) ≠ chipRegAddr c r := fun he =>
      hat ⟨(chipRegAddr_inj he).1, (chipRegAddr_inj he).2.symm⟩
    rw [Memory.read_write_ne _ hne] at hb
    rw [if_neg hat]
    exact h c' i b hb

/-- At the end of a data strobe the chip stores, in the register the tracker says it has latched, the byte the shadow takes. -/
theorem ShadowAgrees.chipEnd {s u : State} (h : ShadowAgrees s) (hinv : BusInv s) (hmem : u.mem = s.mem)
    (hlatch : u.latch = s.latch) (hshadow : u.shadow = (endPhase s).shadow) : ShadowAgrees (chipEnd s.be u) := by
  cases hb : s.be.beState
  case dst =>
    obtain ⟨hcache, hlatched, -⟩ := hinv.running
    obtain ⟨hvalid, hreg⟩ := hlatched (by simp [hb])
    have hknown := hinv.latch _ (hcache (by simp [hb]) (by simp [hb])) hvalid
    rw [hreg, ← hlatch] at hknown
    refine h.store (c := s.be.beJob.chip) (r := s.be.beJob.reg) (v := s.be.beJob.vm) ?_ ?_
    · simp [Machine.chipEnd, hb, chipStores_mem_known u _ hknown, hmem]
    · simp [Machine.chipEnd, hb, hshadow, endPhase]
  all_goals exact h.congr (by simp [Machine.chipEnd, hb, hmem]) (by simp [Machine.chipEnd, hb, hshadow, endPhase])

/-- No phase is followed by itself (R104). -/
theorem nextPhase_ne {k : JobKind} {b p : BePhase} (h : nextPhase k b = some p) : p ≠ b := by
  rcases nextPhase_eq_some h with ⟨rfl, -, rfl⟩ | ⟨rfl, rfl⟩ | ⟨rfl, rfl⟩ | ⟨rfl, rfl⟩ | ⟨rfl, rfl⟩ | ⟨rfl, rfl⟩ <;> simp

/-- No job ends with a strobe (R104). -/
theorem not_strobe_of_nextPhase_none {k : JobKind} {b : BePhase} (h : nextPhase k b = none) : ¬ (b = .ast ∨ b = .dst) := by
  rintro (rfl | rfl) <;> simp [nextPhase] at h

/-- The engine's step and the clock edge after it keep the agreement (R126, R127). -/
theorem ShadowAgrees.after_engineCycle {s : State} (h : ShadowAgrees s) (hinv : BusInv s) :
    ShadowAgrees (clockPins s.pins (engineCycle s)) := by
  rcases engineCycle_cases s with ⟨-, -, e⟩ | ⟨p, -, hp, e⟩ | ⟨-, hnone, e⟩ <;> rw [e]
  case inl =>
    rw [clockPins_of_pinsOk (u := { s with be := { s.be with beCnt := s.be.beCnt - 1 } }) hinv.pins]
    exact h
  case inr.inl =>
    rw [hinv.clockPins_end_eq (by simp)]
    · exact h.chipEnd hinv (by simp) (by simp) (by simp)
    · exact fun _ => by simpa using nextPhase_ne hp
  case inr.inr =>
    rw [hinv.clockPins_end_eq (by simp)]
    · exact h.chipEnd hinv (by simp) (by simp) (by simp)
    · exact fun hb => absurd hb (not_strobe_of_nextPhase_none hnone)

/-- A grant and the final cycle of a transaction write no shadow byte and reach no chip (R285, R290). -/
theorem ShadowAgrees.after_txCycle {s : State} (h : ShadowAgrees s) (hinv : BusInv s) :
    ShadowAgrees (clockPins s.pins (txCycle s)) := by
  rcases txCycle_cases s with ⟨-, -, e⟩ | ⟨ho, ha, e⟩ | ⟨-, hp, e⟩ | ⟨-, -, e⟩ <;> rw [e]
  · exact h.after_engineCycle hinv
  · have hopen := hinv.openTx ha (hinv.idle_of_free ho)
    simpa using (h.congr (t := openTx (arbitrate s) s) (by simp) (by simp)).after_engineCycle hopen
  · have hrel := clockPins_of_pinsOk (hinv.release hp).pins
    simp only [releaseBus_pins, finalEffects_pins] at hrel
    rw [hrel]
    exact h.congr (by simp) (by simp)
  · exact h.after_engineCycle hinv

theorem ShadowAgrees.runCycle {s : State} (h : ShadowAgrees s) (hinv : BusInv s) (i : PinsIn) :
    ShadowAgrees (runCycle i s) := by
  have hdone : BusInv (clearDone s) := hinv.congr rfl rfl rfl rfl rfl rfl fun _ => rfl
  have htx : ShadowAgrees (clockPins s.pins (Machine.txCycle (clearDone s))) :=
    ShadowAgrees.after_txCycle (s := clearDone s) h hdone
  have hrun : Machine.runCycle i s = acceptHost i s.host.hostPending
      (tickCycle (receiverCycle i (clockPins s.pins (Machine.txCycle (clearDone s))))) := rfl
  rw [hrun]
  exact htx.congr (by simp) (by simp)

/-! ### The shadow and the chips: transactions as atomic steps (R121, R286, R291) -/

/-- A full write stores at the register it has just latched (R121). -/
theorem ShadowAgrees.busWrite {s : State} (h : ShadowAgrees s) (c : Chip) (r : RegAddr) (v : Byte) :
    ShadowAgrees (busWrite c r v s) :=
  h.store (busWrite_mem s c r v) (busWrite_shadow s c r v)

/-- A legal fast write stores at the register the chip has latched (R133). -/
theorem ShadowAgrees.busWriteFast {s : State} (h : ShadowAgrees s) (hlatch : LatchOk s) {c : Chip} {r : RegAddr}
    (hfast : fastOk c r s = true) (v : Byte) : ShadowAgrees (busWriteFast c r v s) := by
  obtain ⟨hcache, hvalid, hreg⟩ := fastOk_iff.mp hfast
  have hknown := hlatch c hcache hvalid
  rw [hreg] at hknown
  exact h.store (busWriteFast_mem s r v hknown) (by simp)

/-- A job keeps the agreement, a requested fast write where it is legal (R121, R230). -/
theorem ShadowAgrees.runJob {s : State} (h : ShadowAgrees s) (hlatch : LatchOk s) {j : JobReq}
    (hj : j.kind = .fast → fastOk j.chip j.reg s = true) : ShadowAgrees (runJob s j) := by
  rcases runJob_cases s j with ⟨-, e⟩ | ⟨-, e⟩ | ⟨hk, e⟩ | ⟨-, hf, e⟩ | ⟨-, -, e⟩ <;> rw [e]
  · exact h
  · exact h.busWrite _ _ _
  · exact h.busWriteFast hlatch (hj hk) _
  · exact h.busWriteFast hlatch hf _
  · exact h.busWrite _ _ _

/-- Jobs with no requested fast write among them keep the agreement on a quiet bus. -/
theorem ShadowAgrees.runJobs_of_no_fast {s : State} (h : ShadowAgrees s) (hq : QuietBus s) {js : List JobReq}
    (hjs : ∀ j ∈ js, j.kind ≠ .fast) : ShadowAgrees (runJobs js s) := by
  induction js generalizing s with
  | nil => exact h
  | cons j js ih =>
    obtain ⟨hj, hrest⟩ := List.forall_mem_cons.mp hjs
    exact ih (h.runJob hq.latch fun hk => absurd hk hj) (hq.runJob j) hrest

/-- The jobs of a grant keep the agreement: a requested fast write is alone among them and legal (R136). -/
theorem ShadowAgrees.runJobs {s u : State} (h : ShadowAgrees s) (hq : QuietBus s) {js : List JobReq}
    (hjs : JobsLegal js u) (hbus : s.bus = u.bus) : ShadowAgrees (runJobs js s) := by
  obtain ⟨-, hfast⟩ := hjs
  by_cases hex : ∃ j ∈ js, j.kind = .fast
  · obtain ⟨j, hj, hk⟩ := hex
    obtain ⟨rfl, hok⟩ := hfast j hj hk
    exact h.runJob hq.latch fun _ => by simpa only [fastOk, hbus] using hok
  · push Not at hex
    exact h.runJobs_of_no_fast hq hex

theorem ShadowAgrees.transaction {s t : State} (h : ShadowAgrees s) (hinv : BusInv s) (ht : transaction s = .next t) :
    ShadowAgrees t := by
  have hquiet : arbitrate s ≠ .nobody → QuietBus s := fun ha =>
    hinv.quiet (hinv.idle_of_free (owner_of_arbitrate s ha))
  rcases transaction_cases ht with ⟨ha, rfl⟩ | ⟨c, ha, -, rfl⟩ | ⟨ha, -, rfl⟩ | ⟨ha, rfl⟩ <;>
    have q := hquiet (by simp [ha])
  · exact (h.runJobs q (jobsLegal_hostPlan s.host.hostCmd s) rfl).congr (by simp) (by simp)
  · have hstart : QuietBus (toggleLed c (clearDone s)) := q.congr rfl rfl rfl rfl rfl
    have hjobs := ShadowAgrees.runJobs (s := toggleLed c (clearDone s)) h hstart (jobsLegal_frameJobs c s.hold.hold s) rfl
    exact hjobs.congr (by simp [frameTransaction]) (by simp [frameTransaction])
  · exact h
  · have hstart : QuietBus (takeTick (clearDone s)) := q.congr rfl rfl rfl rfl rfl
    have hjobs := ShadowAgrees.runJobs (s := takeTick (clearDone s)) h hstart (jobsLegal_schedJobs s) rfl
    exact hjobs.congr (by simp [schedTransaction]) (by simp [schedTransaction])

/-- The jobs still to run on an idle engine are legal: all of them, or none (R43, R136). -/
theorem BusInv.jobsLegal_left {s : State} (h : BusInv s) (ho : s.tx.owner ≠ .nobody) (hidle : s.be.beState = .idle) :
    JobsLegal (s.tx.txJobs.drop s.tx.txIdx) s := by
  obtain ⟨hlen, ⟨hn, -⟩ | ⟨-, hp, hi⟩ | ⟨-, -, -, hi⟩⟩ := sequencerOk_iff.mp h.sequencer
  · exact absurd hn ho
  · refine ⟨by simp; omega, fun j hj hk => ?_⟩
    obtain ⟨halone, hlegal⟩ := h.waiting j (List.mem_of_mem_drop hj) hk
    have hzero : s.tx.txIdx = 0 := by simpa [halone] using hi
    exact ⟨by simpa [hzero] using halone, hlegal ho hp hidle⟩
  · simpa [hi] using jobsLegal_nil s

theorem ShadowAgrees.event {e : Event} {s t : State} (h : ShadowAgrees s) (hinv : BusInv s) (he : event e s = .next t) :
    ShadowAgrees t := by
  rcases event_cases he with ⟨b, -, rfl⟩ | ⟨-, -, rfl⟩ | ⟨-, rfl⟩ | ⟨w, -, -, rfl⟩ | ⟨x, -, -, -, -, rfl⟩ |
    ⟨-, ho, hidle, rfl⟩
  · exact h.congr (by simp) (by simp)
  · exact h
  · exact h.congr (by simp) (by simp)
  · exact h
  · exact h.congr (by simp) (by simp)
  · have hq : QuietBus (clearDone s) := (hinv.quiet hidle).congr rfl rfl rfl rfl rfl
    have hjobs := ShadowAgrees.runJobs (s := clearDone s) h hq (hinv.jobsLegal_left ho hidle) rfl
    exact hjobs.congr (by simp [completeTx]) (by simp [completeTx])

/-- Settles O60: the shadow takes a byte exactly where the chip stores it, at the end of the data strobe in level C and in the
data phase in level T; the bus invariant says that the chip has latched the register the shadow stands for. -/
theorem stepsKeepTheShadowExact : Obligations.StepsKeepTheShadowExact := by
  intro s t hinv hs hreset h
  obtain ⟨-, hkept⟩ : BusInv t ∧ ShadowAgrees t :=
    step_keeps (P := fun u => BusInv u ∧ ShadowAgrees u)
      (fun _ _ ⟨hi, ha⟩ => ⟨hi.congr rfl rfl rfl rfl rfl rfl fun _ => rfl, ha⟩)
      (fun i _ ⟨hi, ha⟩ => ⟨hi.runCycle i, ha.runCycle hi i⟩)
      (fun _ _ _ ⟨hi, ha⟩ he => ⟨hi.event he, ha.event hi he⟩)
      (fun _ _ ⟨hi, ha⟩ ht => ⟨hi.transaction ht, ha.transaction hi ht⟩) ⟨hinv, hs⟩ h (.inl hreset)
  exact hkept

end Sys2Proof.Machine

namespace Sys2Proof.Machine

/-! ### Host commands that are answered with a byte (R139, R141, R145) -/

theorem chipOperand_eq_some {chip : BitVec 2} {c : Chip} : chipOperand chip = some c ↔ chip.toNat = c.val := by
  unfold chipOperand
  split
  · simp [Fin.ext_iff]
  · next h =>
    have := c.isLt
    simp only [reduceCtorEq, false_iff]
    omega

/-- A job moves the select code and the data lines at most; the strobes stay down (R103, log 9). -/
theorem strobesKept_runJob (s : State) (j : JobReq) : StrobesKept s (runJob s j) := by
  have hwrite : ∀ c r v, StrobesKept s (busWrite c r v s) := by
    intro c r v
    unfold StrobesKept busWrite selectIfNeeded
    split <;> simp [dataPhase_pins]
  rcases runJob_cases s j with ⟨-, e⟩ | ⟨-, e⟩ | ⟨-, e⟩ | ⟨-, -, e⟩ | ⟨-, -, e⟩ <;> rw [e]
  · exact ⟨rfl, rfl, rfl⟩
  · exact hwrite _ _ _
  · simp [StrobesKept, busWriteFast, dataPhase_pins]
  · simp [StrobesKept, busWriteFast, dataPhase_pins]
  · exact hwrite _ _ _

theorem strobesKept_runJobs (s : State) (js : List JobReq) : StrobesKept s (runJobs js s) := by
  refine runJobs_keeps (P := StrobesKept s) (fun u j hu => ?_) js ⟨rfl, rfl, rfl⟩
  obtain ⟨hsel, has, hds⟩ := strobesKept_runJob u j
  obtain ⟨hsel', has', hds'⟩ := hu
  exact ⟨hsel.trans hsel', has.trans has', hds.trans hds'⟩

/-- What no host command touches (R44). -/
theorem hostTransaction_frame (p : HostPlan) (s : State) : HostFrame s (hostTransaction p s) :=
  hostFrame_hostTransaction p (by simpa [StrobesKept] using strobesKept_runJobs s p.jobs)

/-- The end of an accepted command that answers a byte: the byte and OK, and STATUS as it was (R145). -/
theorem hostTransaction_accept (js : List JobReq) (b : Byte) (s : State) :
    HostDone (hostTransaction (.accept js (.byte b)) s) 0 b ∧
    (hostTransaction (.accept js (.byte b)) s).status = s.status := by
  exact ⟨⟨rfl, rfl, rfl, rfl⟩, by simp [HostPlan.accept, finishHost]⟩

/-- The events of a full write, from the selection cache before it (R121). -/
theorem busWrite_trace_eq_writeEvents (s : State) (c : Chip) (r : RegAddr) (v : Byte) :
    (busWrite c r v s).trace = s.trace ++ writeEvents s.bus.selCache c r (v &&& maskOf r) := by
  rw [busWrite_trace, List.append_assoc]
  rfl

theorem shReg_injective {i j : ShIdx} (h : shReg i = shReg j) : i = j := by
  have hi := shIdx_shReg i
  rw [h, shIdx_shReg] at hi
  exact (Option.some.inj hi).symm

/-- A full write as the one job of a command: its events, and the register, shadow byte and latch that take it, no other
(R121, R126). -/
theorem hostTransaction_write (s : State) (c : Chip) (r : RegAddr) (v : Byte) (d : HostData) :
    let t := hostTransaction (.accept [⟨.write, c, r, v⟩] d) s
    t.trace = s.trace ++ writeEvents s.bus.selCache c r (v &&& maskOf r) ∧
    t.bus = ⟨some c, true, r⟩ ∧
    (∀ c' i, t.shadowAt c' i = if c' = c ∧ r = shReg i then v &&& maskOf r else s.shadowAt c' i) ∧
    (∀ a, t.mem.read a = if a = chipRegAddr c r then some (v &&& maskOf r) else s.mem.read a) ∧
    (∀ c', t.latch.get c' = if c' = c then some r else s.latch.get c') := by
  intro t
  have hjob : runJobs [⟨.write, c, r, v⟩] s = busWrite c r v s := rfl
  have hshadow : t.shadow = shadowAfter c r (v &&& maskOf r) s.shadow := by
    simp only [t, HostPlan.accept, hostTransaction_shadow, hjob, busWrite_shadow]
  have hmem : t.mem = s.mem.write (chipRegAddr c r) (v &&& maskOf r) := by
    simp only [t, HostPlan.accept, hostTransaction_mem, hjob, busWrite_mem]
  have hlatch : t.latch = s.latch.set c (some r) := by
    simp only [t, HostPlan.accept, hostTransaction_latch, hjob, busWrite_latch]
  refine ⟨?_, ?_, fun c' i => ?_, fun a => ?_, fun c' => ?_⟩
  · simp only [t, HostPlan.accept, hostTransaction_trace, hjob, busWrite_trace_eq_writeEvents]
  · simp only [t, HostPlan.accept, hostTransaction_bus, hjob, busWrite_bus]
  · rw [State.shadowAt, hshadow, shadowAfter_get]
    rfl
  · rw [hmem]
    split
    · next ha => rw [ha, Memory.read_write_same]
    · next ha => rw [Memory.read_write_ne _ ha]
  · rw [hlatch, Triple.get_set]

/-- Settles O12: RMW is one full write of the merged byte, and the masked byte written is the answer. -/
theorem rmwUpdatesTheShadowedRegister : Obligations.RmwUpdatesTheShadowedRegister := by
  intro s chip c i o a hchip new
  have hplan : planRmw chip (shReg i) o a s =
      .accept [⟨.write, c, shReg i, (s.shadowAt c i &&& a) ||| o⟩] (.byte new) := by
    simp only [planRmw, chipOperand_eq_some.mpr hchip, shIdx_shReg]
    rfl
  refine ⟨hostTransaction (planRmw chip (shReg i) o a s) s, rfl, ?_⟩
  rw [hplan]
  obtain ⟨hdone, hstatus⟩ := hostTransaction_accept [⟨.write, c, shReg i, (s.shadowAt c i &&& a) ||| o⟩] new s
  obtain ⟨htrace, hbus, hshadow, hmem, hlatch⟩ :=
    hostTransaction_write s c (shReg i) ((s.shadowAt c i &&& a) ||| o) (.byte new)
  have hindex : ∀ j, shReg i = shReg j ↔ j = i := fun j => ⟨fun h => (shReg_injective h).symm, fun h => h ▸ rfl⟩
  simp only [hindex] at hshadow
  exact ⟨hdone, hstatus, hostTransaction_frame _ s, htrace, hbus, hshadow, hmem, hlatch⟩

/-- Settles O13: READ_SHADOW has no job, and its answer is the shadow byte. -/
theorem readShadowAnswersTheShadow : Obligations.ReadShadowAnswersTheShadow := by
  intro s chip c i hchip
  have hplan : planReadShadow chip (shReg i) s = .accept [] (.byte (s.shadowAt c i)) := by
    simp only [planReadShadow, chipOperand_eq_some.mpr hchip, shIdx_shReg]
  refine ⟨hostTransaction (planReadShadow chip (shReg i) s) s, rfl, ?_⟩
  rw [hplan]
  obtain ⟨hdone, hstatus⟩ := hostTransaction_accept [] (s.shadowAt c i) s
  exact ⟨hdone, hstatus, hostTransaction_frame _ s, busKept_hostTransaction rfl s⟩

end Sys2Proof.Machine

namespace Sys2Proof.Machine

/-! ### A transaction is its grant, its jobs and its final effects (R285, R286) -/

/-- Every operation answers a next state (R270, R299). -/
theorem exec_completes (i : Instr) (s : State) : ∃ t, exec i s = .next t := by
  rcases exec_cases s i with ⟨p, e⟩ | ⟨c, f, -, -, e⟩ | ⟨f, -, -, e⟩ | ⟨c, v, p, n, -, e⟩ | ⟨c, v, p, n, id, -, e⟩ |
    ⟨js, -, e⟩ <;> exact ⟨_, e⟩

/-- Whatever is granted runs as a transaction (R286). -/
theorem transaction_completes {s : State} (h : arbitrate s ≠ .nobody) : ∃ t, transaction s = .next t := by
  unfold transaction
  split
  · next hf => cases ha : arbitrate s <;> simp_all [fetch]
  · split
    · exact exec_completes _ s
    · exact ⟨_, rfl⟩

theorem hostPending_of_arbitrate_host {s : State} (h : arbitrate s = .host) : s.host.hostPending = true := by
  unfold arbitrate foreground at h
  split at h
  · cases h
  · split at h
    · cases h
    · cases hp : s.host.hostPending
      · cases hb : s.cfg.arbFg <;> cases hf : s.hold.holdFull <;> simp [hf, hb, hp] at h
      · rfl

/-- Merging into a byte that has been merged already changes nothing (R139, log 6). -/
theorem merge_idem (b a o m : Byte) : ((((b &&& a) ||| o) &&& m) &&& a ||| o) &&& m = ((b &&& a) ||| o) &&& m := by
  ext i hi
  simp only [BitVec.getElem_and, BitVec.getElem_or]
  cases b[i] <;> cases a[i] <;> cases o[i] <;> cases m[i] <;> rfl

/-- Two plans with one verdict and one result (R98, R99). -/
def SameAnswer (p q : HostPlan) : Prop := p.err = q.err ∧ p.data = q.data

theorem SameAnswer.finishHost {p q : HostPlan} (h : SameAnswer p q) (s : State) : finishHost p s = finishHost q s := by
  obtain ⟨he, hd⟩ := h
  simp only [Machine.finishHost, he, hd]

/-- A plan reads the tracker and the shadow alone (R98, R133, R139, R141). -/
theorem planOf_congr {u a : State} (hbus : u.bus = a.bus) (hshadow : u.shadow = a.shadow) (i : Instr) :
    planOf i u = planOf i a := by
  have hbyte : ∀ c i, u.shadowAt c i = a.shadowAt c i := fun c i => by simp only [State.shadowAt, hshadow]
  have hfast : ∀ c r, fastOk c r u = fastOk c r a := fun c r => by simp only [fastOk, hbus]
  cases i
  case writeFast => simp only [planOf, planWriteFast, hfast]
  case rmw => simp only [planOf, planRmw, hbyte]
  case readShadow => simp only [planOf, planReadShadow, hbyte]
  all_goals rfl

theorem hostPlan_congr {u a : State} (hbus : u.bus = a.bus) (hshadow : u.shadow = a.shadow) (w : HostWord) :
    hostPlan w u = hostPlan w a := by
  simp only [hostPlan, planOf_congr hbus hshadow]

/-- A command without a job leaves no other answer. -/
theorem planOf_after_no_jobs {i : Instr} {s : State} (h : (planOf i s).jobs = []) :
    SameAnswer (planOf i (runJobs (planOf i s).jobs s)) (planOf i s) := by
  rw [h]
  exact ⟨rfl, rfl⟩

/-- A command's own jobs do not change its answer: a legal fast write stays legal, and the merge of RMW is idempotent (log 6). -/
theorem planOf_after_jobs (i : Instr) (s : State) : SameAnswer (planOf i (runJobs (planOf i s).jobs s)) (planOf i s) := by
  cases i
  case writeFast chip r v =>
    cases hc : chipOperand chip
    case none => exact planOf_after_no_jobs (by simp [planOf, planWriteFast, hc, HostPlan.reject])
    case some c =>
      by_cases hf : fastOk c r s = true
      · have hplan : ∀ u, u.bus = s.bus → planOf (.writeFast chip r v) u = .accept [⟨.fast, c, r, v⟩] (.byte 0) := by
          intro u hu
          have hfu : fastOk c r u = true := by simpa only [fastOk, hu] using hf
          simp only [planOf, planWriteFast, hc, hfu, if_true]
        rw [hplan s rfl]
        change SameAnswer (planOf _ (busWriteFast c r v s)) _
        rw [hplan _ (busWriteFast_bus s c r v)]
        exact ⟨rfl, rfl⟩
      · exact planOf_after_no_jobs (by simp [planOf, planWriteFast, hc, hf, HostPlan.reject])
  case rmw chip r o a =>
    cases hc : chipOperand chip
    case none => exact planOf_after_no_jobs (by simp [planOf, planRmw, hc, HostPlan.reject])
    case some c =>
      cases hi : shIdx r
      case none => exact planOf_after_no_jobs (by simp [planOf, planRmw, hc, hi, HostPlan.reject])
      case some i =>
        have hplan : ∀ u, planOf (.rmw chip r o a) u = .accept [⟨.write, c, r, (u.shadowAt c i &&& a) ||| o⟩]
            (.byte (((u.shadowAt c i &&& a) ||| o) &&& maskOf r)) := by
          intro u
          simp only [planOf, planRmw, hc, hi]
        have hmerged : (busWrite c r ((s.shadowAt c i &&& a) ||| o) s).shadowAt c i =
            ((s.shadowAt c i &&& a) ||| o) &&& maskOf r := by
          rw [State.shadowAt, busWrite_shadow, shadowAfter_get, if_pos ⟨rfl, shIdx_eq_some.mp hi⟩]
        rw [hplan s]
        change SameAnswer (planOf _ (busWrite c r ((s.shadowAt c i &&& a) ||| o) s)) _
        rw [hplan, hmerged]
        exact ⟨rfl, congrArg HostData.byte (merge_idem (s.shadowAt c i) a o (maskOf r))⟩
  case readShadow chip r =>
    refine planOf_after_no_jobs ?_
    simp only [planOf, planReadShadow]
    split
    · rfl
    · split <;> rfl
  all_goals exact ⟨rfl, rfl⟩

theorem hostPlan_after_jobs (w : HostWord) (s : State) :
    SameAnswer (hostPlan w (runJobs (hostPlan w s).jobs s)) (hostPlan w s) := by
  unfold hostPlan
  split
  · exact planOf_after_jobs _ s
  · exact ⟨rfl, rfl⟩

/-- `h_done_o` is no concern of the jobs. -/
theorem runJob_clearDone (s : State) (j : JobReq) : runJob (clearDone s) j = clearDone (runJob s j) := by
  have hstore : ∀ c v u, chipStores c v (clearDone u) = clearDone (chipStores c v u) := by
    intro c v u
    cases h : u.latch.get c <;> simp [chipStores, h] <;> rfl
  have hdata : ∀ c r v u, dataPhase c r v (clearDone u) = clearDone (dataPhase c r v u) := fun c r v u =>
    congrArg (holdData v) (hstore c v (dataEnd c r v u))
  have hwrite : ∀ c r v, busWrite c r v (clearDone s) = clearDone (busWrite c r v s) := by
    intro c r v
    have hsel : selectIfNeeded c (clearDone s) = clearDone (selectIfNeeded c s) := by
      unfold selectIfNeeded
      by_cases hc : s.bus.selCache = some c
      · simp [hc]
      · simp only [clearDone_bus, hc, if_false]
        rfl
    rw [busWrite, hsel]
    exact hdata c r _ (addressPhase c r (selectIfNeeded c s))
  have hkind : resolve j (clearDone s) = resolve j s := rfl
  simp only [runJob, hkind]
  split
  · rfl
  · exact hwrite _ _ _
  · exact hdata _ _ _ s

theorem runJobs_clearDone (js : List JobReq) (s : State) : runJobs js (clearDone s) = clearDone (runJobs js s) := by
  induction js generalizing s with
  | nil => rfl
  | cons j js ih => rw [runJobs_cons, runJob_clearDone, ih, runJobs_cons]

theorem finishHost_clearDone (p : HostPlan) (s : State) : finishHost p (clearDone s) = finishHost p s := by
  rcases finishHost_cases s p with ⟨b, he, hd, -⟩ | ⟨he, hd, -⟩ | ⟨he, e⟩
  · simp only [finishHost, he, hd]
    rfl
  · simp only [finishHost, he, hd]
    rfl
  · rw [finishHost_rejected _ he, e]
    rfl

/-- The state in which the transaction granted to `x` has run its jobs and stands before its final effects. -/
def afterJobs (x : Owner) (s : State) : State := runJobs (grantJobs x s) (grantEffects x (clearDone s))

/-- The transaction the arbiter chooses, as one atomic step: its grant effects, its jobs, its final effects, and the bus set
free (R285, R286). -/
theorem transaction_eq {s : State} (h : arbitrate s ≠ .nobody) :
    transaction s =
      .next (closeTx (grantJobs (arbitrate s) s) (finalEffects (arbitrate s) (afterJobs (arbitrate s) s))) := by
  obtain ⟨t, ht⟩ := transaction_completes h
  rw [ht]
  congr 1
  rcases transaction_cases ht with ⟨ha, rfl⟩ | ⟨c, ha, hc, rfl⟩ | ⟨ha, hc, rfl⟩ | ⟨ha, rfl⟩ <;>
    rw [ha] <;> simp only [afterJobs, grantJobs, grantEffects]
  · rw [runJobs_clearDone]
    simp only [finalEffects, clearDone_host, runJobs_host]
    have hsame := (hostPlan_after_jobs s.host.hostCmd s).finishHost (runJobs (hostPlan s.host.hostCmd s).jobs s)
    rw [hostTransaction, ← hsame, finishHost_clearDone]
    rfl
  · simp [hc, finalEffects, frameTransaction]
  · simp [hc, finalEffects]
  · rfl

end Sys2Proof.Machine

namespace Sys2Proof.Machine

/-! ### The chips influence nothing (R61) -/

/-- The machine with other chips behind it. -/
def withChips (latch : Triple (Option RegAddr)) (mem : Memory) (s : State) : State :=
  { s with latch := latch, mem := mem }

/-- An agent that does not meet the chips: it does the same whatever they hold, and leaves them alone. -/
def ChipBlind (f : State → State) : Prop := ∀ l m s, f (withChips l m s) = withChips l m (f s)

theorem ChipBlind.ite {p : State → Prop} [DecidablePred p] {f g : State → State} (hf : ChipBlind f) (hg : ChipBlind g)
    (hp : ∀ l m s, p (withChips l m s) ↔ p s) : ChipBlind (fun s => if p s then f s else g s) := by
  intro l m s
  by_cases h : p s
  · simp only [hp, h, if_true, hf l m s]
  · simp only [hp, h, if_false, hg l m s]

/-! #### The bus engine -/

theorem chipBlind_endPhase : ChipBlind endPhase := by
  intro l m s
  cases h : s.be.beState <;> simp [endPhase, withChips, h] <;> rfl

theorem chipBlind_nextJob : ChipBlind nextJob := by
  intro l m s
  by_cases ho : s.tx.owner = .nobody
  · simp [nextJob, withChips, ho]
  · have hidx : nextIdx (withChips l m s) = nextIdx s := rfl
    cases hj : s.tx.txJobs[nextIdx s]?
    · simp only [nextJob, hidx]
      simp only [withChips, ho, hj, if_false]
      rfl
    · simp only [nextJob, hidx]
      simp only [withChips, ho, hj, if_false]
      rfl

theorem chipBlind_engineCycle : ChipBlind engineCycle := by
  intro l m s
  by_cases hc : s.be.beState ≠ .idle ∧ 1 < s.be.beCnt
  · simp [engineCycle, withChips, hc]
  · cases hn : nextPhase s.be.beJob.kind s.be.beState
    case none =>
      have he : ∀ u : State, u.be = s.be → engineCycle u = nextJob (endPhase u) := by
        intro u hu
        simp only [engineCycle, hu, hc, if_false, hn]
      rw [he s rfl, he (withChips l m s) rfl, chipBlind_endPhase, chipBlind_nextJob]
    case some p =>
      have he : ∀ u : State, u.be = s.be → engineCycle u = enterPhase p (endPhase u) := by
        intro u hu
        simp only [engineCycle, hu, hc, if_false, hn]
      rw [he s rfl, he (withChips l m s) rfl, chipBlind_endPhase]
      rfl

/-! #### The transactions -/

theorem grantJobs_withChips (x : Owner) (l m s) : grantJobs x (withChips l m s) = grantJobs x s := by
  cases x
  case host => exact congrArg HostPlan.jobs (hostPlan_congr (u := withChips l m s) rfl rfl _)
  all_goals rfl

theorem chipBlind_grantEffects (x : Owner) : ChipBlind (grantEffects x) := by
  intro l m s
  cases x
  case frame =>
    cases hc : frameChip s.hold.hold
    · simp [grantEffects, withChips, hc]
    · simp only [grantEffects, withChips, hc]
      rfl
  all_goals rfl

theorem chipBlind_openTx (x : Owner) : ChipBlind (openTx x) := by
  intro l m s
  rw [openTx, chipBlind_grantEffects, grantJobs_withChips]
  rfl

theorem chipBlind_finishHost (p : HostPlan) : ChipBlind (finishHost p) := by
  intro l m s
  rcases p with ⟨e, js, d⟩
  cases e <;> cases d <;> rfl

theorem chipBlind_frameFinal (c : Chip) (f : Frame) : ChipBlind (frameFinal c f) := by
  intro l m s
  cases hv : voiceOperand (slot2Voice f)
  · simp only [frameFinal, frameSlots, slot2Apply, hv]
    rfl
  · simp only [frameFinal, frameSlots, slot2Apply, hv]
    rfl

theorem chipBlind_finalEffects (x : Owner) : ChipBlind (finalEffects x) := by
  intro l m s
  cases x
  case frame =>
    cases hc : frameChip s.hold.hold
    · simp only [finalEffects, withChips, hc]
      rfl
    · simp only [finalEffects, withChips, hc]
      exact chipBlind_frameFinal _ _ l m s
  case host =>
    simp only [finalEffects, hostPlan_congr (u := withChips l m s) (a := s) rfl rfl]
    exact chipBlind_finishHost _ l m s
  all_goals rfl

/-- The transaction's part of a cycle, by the state of the sequencer (R285). -/
theorem txCycle_eq (s : State) :
    txCycle s =
      if s.tx.owner = .nobody then
        if arbitrate s = .nobody then engineCycle s else engineCycle (openTx (arbitrate s) s)
      else if s.tx.txPhase = .final then releaseBus (finalEffects s.tx.owner s)
      else engineCycle s := by
  rcases txCycle_cases s with ⟨ho, ha, e⟩ | ⟨ho, ha, e⟩ | ⟨ho, hp, e⟩ | ⟨ho, hp, e⟩ <;> simp [*]

theorem chipBlind_txCycle : ChipBlind txCycle := by
  rw [show txCycle = _ from funext txCycle_eq]
  refine .ite (.ite chipBlind_engineCycle (fun l m s => ?_) fun _ _ _ => Iff.rfl)
    (.ite (fun l m s => ?_) chipBlind_engineCycle fun _ _ _ => Iff.rfl) fun _ _ _ => Iff.rfl
  · exact (congrArg engineCycle (chipBlind_openTx (arbitrate s) l m s)).trans (chipBlind_engineCycle l m _)
  · exact congrArg releaseBus (chipBlind_finalEffects s.tx.owner l m s)

/-! #### The receiver, the tick generator, the host port -/

theorem chipBlind_completeFrame (f : Frame) : ChipBlind (completeFrame f) := by
  have hhold : ChipBlind (holdFrame f) := .ite (fun _ _ _ => rfl) (fun _ _ _ => rfl) fun _ _ _ => Iff.rfl
  intro l m s
  cases hc : frameChip f
  · simp only [completeFrame, hc]
    rfl
  · simpa only [completeFrame, hc] using hhold l m s

theorem chipBlind_receiveByte (b : Byte) : ChipBlind (receiveByte b) := by
  intro l m s
  by_cases h : s.rx.rxCount.val < 16
  · simp [receiveByte, withChips, h]
  · have hfull : ¬ (withChips l m s).rx.rxCount.val < 16 := h
    rw [receiveByte, receiveByte, dif_neg h, dif_neg hfull]
    exact chipBlind_completeFrame _ l m { s with rx := { s.rx with rxCount := 0, rxIdle := 0 } }

theorem chipBlind_receiveNothing : ChipBlind receiveNothing :=
  .ite (fun _ _ _ => rfl) (.ite (fun _ _ _ => rfl) (fun _ _ _ => rfl) fun _ _ _ => Iff.rfl) fun _ _ _ => Iff.rfl

theorem chipBlind_receiverCycle (i : PinsIn) : ChipBlind (receiverCycle i) :=
  .ite (chipBlind_receiveByte i.rxData) chipBlind_receiveNothing fun _ _ _ => Iff.rfl

theorem chipBlind_raiseTick : ChipBlind raiseTick :=
  .ite (fun _ _ _ => rfl) (fun _ _ _ => rfl) fun _ _ _ => Iff.rfl

theorem chipBlind_tickCycle : ChipBlind tickCycle :=
  .ite (fun l m s => chipBlind_raiseTick l m { s with tick := { s.tick with tickDiv := 0 } }) (fun _ _ _ => rfl)
    fun _ _ _ => Iff.rfl

theorem chipBlind_acceptHost (i : PinsIn) (p : Bool) : ChipBlind (acceptHost i p) :=
  .ite (fun _ _ _ => rfl) (fun _ _ _ => rfl) fun _ _ _ => Iff.rfl

/-! #### Two machines that differ in their chips alone -/

/-- A machine is another one with its own chips. -/
theorem SameButChips.eq_withChips {a b : State} (h : SameButChips a b) : b = withChips b.latch b.mem a := h.symm

/-- What two such machines have in common, of what the steps below look at. -/
theorem SameButChips.parts {a b : State} (h : SameButChips a b) :
    b.pins = a.pins ∧ b.be = a.be ∧ b.rx = a.rx ∧ b.host = a.host ∧ b.tx = a.tx ∧ b.schedule = a.schedule ∧
    arbitrate b = arbitrate a := by
  rw [h.eq_withChips]
  exact ⟨rfl, rfl, rfl, rfl, rfl, rfl, rfl⟩

/-- What does not meet the chips keeps two such machines alike. -/
theorem SameButChips.map {f : State → State} (hf : ChipBlind f) {a b : State} (h : SameButChips a b) :
    SameButChips (f a) (f b) := by
  rw [h.eq_withChips, hf]
  rfl

/-- So does what only the chips notice. -/
theorem SameButChips.map_chips {f : State → State} (hf : ∀ s, withChips s.latch s.mem (f s) = s) {a b : State}
    (h : SameButChips a b) : SameButChips (f a) (f b) := by
  have hout : ∀ s, f s = withChips (f s).latch (f s).mem s := fun s =>
    calc f s = withChips (f s).latch (f s).mem (withChips s.latch s.mem (f s)) := rfl
      _ = withChips (f s).latch (f s).mem s := by rw [hf s]
  rw [hout a, hout b, h.eq_withChips]
  rfl

theorem SameButChips.chipStores {a b : State} (h : SameButChips a b) (c : Chip) (v : Byte) :
    SameButChips (chipStores c v a) (chipStores c v b) :=
  h.map_chips fun s => by unfold Machine.chipStores; split <;> rfl

theorem SameButChips.observe {a b : State} (h : SameButChips a b) (old new : BusPins) :
    SameButChips (observe old new a) (observe old new b) := by
  have hsees : ∀ c {a b}, SameButChips a b → SameButChips (chipSees old new a c) (chipSees old new b c) := by
    intro c a b h
    refine h.map_chips (f := fun s => chipSees old new s c) fun s => ?_
    unfold chipSees Machine.chipStores
    split_ifs
    · rfl
    · split <;> rfl
    · rfl
    · rfl
  exact hsees 2 (hsees 1 (hsees 0 h))

theorem SameButChips.dataPhase {a b : State} (h : SameButChips a b) (c : Chip) (r : RegAddr) (v : Byte) :
    SameButChips (dataPhase c r v a) (dataPhase c r v b) :=
  ((h.map (f := dataEnd c r v) fun _ _ _ => rfl).chipStores c v).map (f := holdData v) fun _ _ _ => rfl

theorem SameButChips.addressPhase {a b : State} (h : SameButChips a b) (c : Chip) (r : RegAddr) :
    SameButChips (addressPhase c r a) (addressPhase c r b) :=
  (h.map (f := addrEnd c r) fun _ _ _ => rfl).map_chips (f := chipLatches c r) fun _ => rfl

theorem SameButChips.busWrite {a b : State} (h : SameButChips a b) (c : Chip) (r : RegAddr) (v : Byte) :
    SameButChips (busWrite c r v a) (busWrite c r v b) := by
  have hsel : ChipBlind (selectIfNeeded c) := .ite (fun _ _ _ => rfl) (fun _ _ _ => rfl) fun _ _ _ => Iff.rfl
  exact ((h.map hsel).addressPhase c r).dataPhase c r _

theorem SameButChips.runJob {a b : State} (h : SameButChips a b) (j : JobReq) :
    SameButChips (runJob a j) (runJob b j) := by
  have hkind : resolve j b = resolve j a := by rw [h.eq_withChips]; rfl
  simp only [Machine.runJob, hkind]
  split
  · exact h.map (f := busSelect j.chip) fun _ _ _ => rfl
  · exact h.busWrite _ _ _
  · exact h.dataPhase _ _ _

theorem SameButChips.runJobs {a b : State} (h : SameButChips a b) (js : List JobReq) :
    SameButChips (runJobs js a) (runJobs js b) := by
  induction js generalizing a b with
  | nil => exact h
  | cons j js ih => exact ih (h.runJob j)

/-! #### The step -/

theorem SameButChips.runCycle {a b : State} (h : SameButChips a b) (i : PinsIn) :
    SameButChips (runCycle i a) (runCycle i b) := by
  obtain ⟨hpins, -, -, hhost, -⟩ := h.parts
  have hdone := h.map (f := clearDone) fun _ _ _ => rfl
  have hdriven := (hdone.map chipBlind_txCycle).map (f := drivePins) fun _ _ _ => rfl
  obtain ⟨hnew, -⟩ := hdriven.parts
  have hseen := hdriven.observe a.pins (drivePins (txCycle (clearDone a))).pins
  simp only [Machine.runCycle, hpins, hhost, hnew]
  exact ((hseen.map (chipBlind_receiverCycle i)).map chipBlind_tickCycle).map (chipBlind_acceptHost i _)

theorem SameButChips.resetCycle {a b : State} (h : SameButChips a b) (i : PinsIn) :
    SameButChips (resetCycle i a) (resetCycle i b) := by
  obtain ⟨-, hbe, -⟩ := h.parts
  have hloses : ∀ s, withChips s.latch s.mem (observeReset a.be s) = s := by
    intro s
    unfold observeReset
    split <;> rfl
  have hreset : SameButChips
      { State.resetWith a.cfg i.cfgMode with trace := a.trace, latch := a.latch, mem := a.mem, schedule := a.schedule }
      { State.resetWith b.cfg i.cfgMode with trace := b.trace, latch := b.latch, mem := b.mem, schedule := b.schedule } := by
    rw [h.eq_withChips]
    rfl
  unfold Machine.resetCycle
  rw [hbe]
  exact hreset.map_chips hloses

theorem SameButChips.cycle {a b : State} (h : SameButChips a b) (i : PinsIn) :
    SameButChips (cycle i a) (cycle i b) := by
  unfold Machine.cycle
  split
  · exact h.resetCycle i
  · exact h.runCycle i

theorem SameButChips.completeTx {a b : State} (h : SameButChips a b) : SameButChips (completeTx a) (completeTx b) := by
  obtain ⟨-, -, -, -, htx, -⟩ := h.parts
  simp only [Machine.completeTx, htx]
  exact ((h.runJobs _).map (chipBlind_finalEffects _)).map (f := closeTx _) fun _ _ _ => rfl

theorem SameButChips.event {a b ta : State} {e : Event} (h : SameButChips a b) (ha : event e a = .next ta) :
    ∃ tb, event e b = .next tb ∧ SameButChips ta tb := by
  have hdone := h.map (f := clearDone) fun _ _ _ => rfl
  obtain ⟨-, hbe, hrx, hhost, htx, -, harb⟩ := h.parts
  rcases event_cases ha with ⟨x, rfl, rfl⟩ | ⟨rfl, hc, rfl⟩ | ⟨rfl, rfl⟩ | ⟨w, rfl, hp, rfl⟩ | ⟨x, rfl, hx, hax, hi, rfl⟩ |
    ⟨rfl, ho, hi, rfl⟩
  · exact ⟨_, rfl, hdone.map (chipBlind_receiveByte x)⟩
  · exact ⟨_, by simp [Machine.event, hrx, hc], hdone.map (f := dropPartial) fun _ _ _ => rfl⟩
  · exact ⟨_, rfl, hdone.map chipBlind_raiseTick⟩
  · exact ⟨_, by simp [Machine.event, hhost, hp], hdone.map (f := takeOffer w) fun _ _ _ => rfl⟩
  · exact ⟨_, by simp [Machine.event, harb, hax, hbe, hx, hi], hdone.map (chipBlind_openTx x)⟩
  · exact ⟨_, by simp [Machine.event, htx, hbe, ho, hi], hdone.completeTx⟩

theorem SameButChips.transaction {a b ta : State} (h : SameButChips a b) (ha : transaction a = .next ta) :
    ∃ tb, transaction b = .next tb ∧ SameButChips ta tb := by
  obtain ⟨-, -, -, -, -, -, harb⟩ := h.parts
  have hgrant : arbitrate a ≠ .nobody := by
    intro hn
    simp [Machine.transaction, fetch, hn] at ha
  have hjobs : grantJobs (arbitrate a) b = grantJobs (arbitrate a) a := by
    rw [h.eq_withChips, grantJobs_withChips]
  refine ⟨_, transaction_eq (harb ▸ hgrant), ?_⟩
  rw [transaction_eq hgrant] at ha
  cases ha
  simp only [harb, afterJobs, hjobs]
  have hstart := (h.map (f := clearDone) fun _ _ _ => rfl).map (chipBlind_grantEffects (arbitrate a))
  exact ((hstart.runJobs _).map (chipBlind_finalEffects _)).map (f := closeTx _) fun _ _ _ => rfl

/-- Settles O53: every agent but the chips does the same whatever they hold, and the chips write to themselves alone. -/
theorem chipsInfluenceNothing : Obligations.ChipsInfluenceNothing := by
  intro a b ta h ha
  obtain ⟨-, -, -, -, -, hschedule, -⟩ := h.parts
  have hnext : ∀ rest, SameButChips { a with schedule := rest } { b with schedule := rest } := fun rest =>
    h.map (f := fun s => { s with schedule := rest }) fun _ _ _ => rfl
  rcases step_cases ha with ⟨hq, rfl⟩ | ⟨i, rest, hq, rfl⟩ | ⟨e, rest, hq, he⟩ | ⟨rest, hq, ht⟩ <;>
    simp only [step, hschedule, hq]
  · exact ⟨_, rfl, h.cycle .idle⟩
  · exact ⟨_, rfl, (hnext rest).cycle i⟩
  · exact (hnext rest).event he
  · exact (hnext rest).transaction ht

end Sys2Proof.Machine

namespace Sys2Proof.Machine

/-! ### Atomicity: what a transaction shares with nobody (R44, R73) -/

/-- The state a transaction owns exclusively, the trace, and the chips. -/
structure Shared where
  cfg : Config
  mode : Mode
  bus : BusTracker
  shadow : Triple Shadow
  ts : Triple (Triple TimerSynth)
  sp : Triple (Triple SamplePlay)
  rrSlot : BitVec 3
  led : Triple Bool
  trace : List BusEvent
  latch : Triple (Option RegAddr)
  mem : Memory

/-- The shared part of a state. -/
def State.shared (s : State) : Shared :=
  ⟨s.cfg, s.mode, s.bus, s.shadow, s.ts, s.sp, s.rrSlot, s.led, s.trace, s.latch, s.mem⟩

theorem shared_eq_iff {u a : State} :
    u.shared = a.shared ↔ u.cfg = a.cfg ∧ u.mode = a.mode ∧ u.bus = a.bus ∧ u.shadow = a.shadow ∧ u.ts = a.ts ∧
      u.sp = a.sp ∧ u.rrSlot = a.rrSlot ∧ u.led = a.led ∧ u.trace = a.trace ∧ u.latch = a.latch ∧ u.mem = a.mem := by
  simp [State.shared]

/-- An operation whose effect on the shared state depends on the shared state alone. -/
def ActsOnShared (f : State → State) : Prop := ∀ {u a : State}, u.shared = a.shared → (f u).shared = (f a).shared

theorem actsOnShared_selEnd (c : Chip) : ActsOnShared (selEnd c) := fun h => by
  simp only [shared_eq_iff] at h ⊢
  simp [h]

theorem actsOnShared_addrEnd (c : Chip) (r : RegAddr) : ActsOnShared (addrEnd c r) := fun h => by
  simp only [shared_eq_iff] at h ⊢
  simp [h]

theorem actsOnShared_dataEnd (c : Chip) (r : RegAddr) (v : Byte) : ActsOnShared (dataEnd c r v) := fun h => by
  simp only [shared_eq_iff] at h ⊢
  simp [h]

theorem actsOnShared_chipLatches (c : Chip) (r : RegAddr) : ActsOnShared (chipLatches c r) := fun h => by
  simp only [shared_eq_iff] at h ⊢
  simp [h]

theorem actsOnShared_chipStores (c : Chip) (v : Byte) : ActsOnShared (chipStores c v) := by
  intro u a h
  simp only [shared_eq_iff] at h ⊢
  obtain ⟨-, -, -, -, -, -, -, -, -, hlatch, hmem⟩ := id h
  refine ⟨by simp [h], by simp [h], by simp [h], by simp [h], by simp [h], by simp [h], by simp [h], by simp [h],
    by simp [h], by simp [h], ?_⟩
  unfold chipStores
  rw [hlatch]
  split <;> simp [hmem]

/-! ### Atomicity: a job is the effects of its phases (R104, R121) -/

/-- What the end of a phase of job `j` does, to YMC and to the chip (R62, R124 to R126). -/
def phaseEffect (j : Job) (s : State) : BePhase → State
  | .sel => selEnd j.chip s
  | .ast => chipLatches j.chip j.reg (addrEnd j.chip j.reg s)
  | .dst => chipStores j.chip j.vm (dataEnd j.chip j.reg j.vm s)
  | .idle | .asu | .ahd | .dsu | .dhd => s

theorem chipEnd_endPhase (s : State) : chipEnd s.be (endPhase s) = phaseEffect s.be.beJob s s.be.beState := by
  cases h : s.be.beState <;> simp [chipEnd, endPhase, phaseEffect, h]

theorem actsOnShared_phaseEffect (j : Job) (p : BePhase) : ActsOnShared (fun s => phaseEffect j s p) := by
  intro u a h
  cases p
  case sel => exact actsOnShared_selEnd _ h
  case ast => exact actsOnShared_chipLatches _ _ (actsOnShared_addrEnd _ _ h)
  case dst => exact actsOnShared_chipStores _ _ (actsOnShared_dataEnd _ _ _ h)
  all_goals exact h

/-- The phases of a job from a phase on (R104). -/
def phasesFrom (k : JobKind) : BePhase → List BePhase
  | .idle => []
  | .sel => if k = .write then [.sel, .asu, .ast, .ahd, .dsu, .dst, .dhd] else [.sel]
  | .asu => [.asu, .ast, .ahd, .dsu, .dst, .dhd]
  | .ast => [.ast, .ahd, .dsu, .dst, .dhd]
  | .ahd => [.ahd, .dsu, .dst, .dhd]
  | .dsu => [.dsu, .dst, .dhd]
  | .dst => [.dst, .dhd]
  | .dhd => [.dhd]

theorem phasesFrom_next {k : JobKind} {p q : BePhase} (h : nextPhase k p = some q) :
    phasesFrom k p = p :: phasesFrom k q := by
  rcases nextPhase_eq_some h with ⟨rfl, rfl, rfl⟩ | ⟨rfl, rfl⟩ | ⟨rfl, rfl⟩ | ⟨rfl, rfl⟩ | ⟨rfl, rfl⟩ | ⟨rfl, rfl⟩ <;> rfl

theorem phasesFrom_last {k : JobKind} {p : BePhase} (h : nextPhase k p = none) (hp : p ≠ .idle) :
    phasesFrom k p = [p] := by
  cases p <;> cases k <;> simp_all [nextPhase, phasesFrom]

/-- A running phase is the first of those left. -/
theorem phasesFrom_eq_cons (k : JobKind) {p : BePhase} (hp : p ≠ .idle) :
    phasesFrom k p = p :: (phasesFrom k p).tail := by
  cases hn : nextPhase k p
  case none => rw [phasesFrom_last hn hp, List.tail_cons]
  case some q => rw [phasesFrom_next hn, List.tail_cons]

/-- Phases one after another. -/
def runPhases (j : Job) (ps : List BePhase) (s : State) : State := ps.foldl (phaseEffect j) s

theorem actsOnShared_runPhases (j : Job) (ps : List BePhase) : ActsOnShared (runPhases j ps) := by
  intro u a h
  induction ps generalizing u a with
  | nil => exact h
  | cons p ps ih => exact ih (actsOnShared_phaseEffect j p h)

theorem resolve_congr {u a : State} (h : u.bus = a.bus) (j : JobReq) : resolve j u = resolve j a := by
  cases hk : j.kind <;> simp [resolve, fastOk, hk, h]

theorem firstPhase_congr {u a : State} (h : u.bus = a.bus) (j : Job) : firstPhase j u = firstPhase j a := by
  simp only [firstPhase, h]

/-- A job run as one step does to the shared state what its phases do (R121, R124 to R126). -/
theorem runJob_shared (s : State) (j : JobReq) :
    (runJob s j).shared =
      (runPhases (resolve j s) (phasesFrom (resolve j s).kind (firstPhase (resolve j s) s)) s).shared := by
  have hdata : ∀ c r v u a, u.shared = a.shared →
      (dataPhase c r v u).shared = (chipStores c v (dataEnd c r v a)).shared := fun c r v u a h =>
    actsOnShared_chipStores c v (actsOnShared_dataEnd c r v h)
  have haddr : ∀ c r u a, u.shared = a.shared →
      (addressPhase c r u).shared = (chipLatches c r (addrEnd c r a)).shared := fun c r u a h =>
    actsOnShared_chipLatches c r (actsOnShared_addrEnd c r h)
  cases hk : (resolve j s).kind
  case select => simp only [runJob, firstPhase, hk]; rfl
  case fast =>
    simp only [runJob, firstPhase, hk]
    exact hdata _ _ _ s s rfl
  case write =>
    by_cases hc : s.bus.selCache = some j.chip
    · simp only [runJob, firstPhase, hk, resolve_chip, hc, if_true, busWrite, selectIfNeeded]
      exact hdata _ _ _ _ _ (haddr _ _ s s rfl)
    · simp only [runJob, firstPhase, hk, resolve_chip, hc, if_false, busWrite, selectIfNeeded]
      exact hdata _ _ _ _ _ (haddr _ _ _ (selEnd j.chip s) rfl)

theorem actsOnShared_runJob (j : JobReq) : ActsOnShared (fun s => runJob s j) := by
  intro u a h
  obtain ⟨-, -, hbus, -⟩ := shared_eq_iff.mp h
  show (runJob u j).shared = (runJob a j).shared
  rw [runJob_shared, runJob_shared, resolve_congr hbus, firstPhase_congr hbus]
  exact actsOnShared_runPhases _ _ h

theorem actsOnShared_runJobs (js : List JobReq) : ActsOnShared (runJobs js) := by
  intro u a h
  induction js generalizing u a with
  | nil => exact h
  | cons j js ih => exact ih (actsOnShared_runJob j h)

/-- The phases of a full write after its selection, whatever the length of each (R104). -/
theorem sum_phases_write (n : BePhase → Nat) :
    ((phasesFrom .write .asu).map n).sum = n .asu + n .ast + n .ahd + n .dsu + n .dst + n .dhd := by
  simp only [phasesFrom, List.map_cons, List.map_nil, List.sum_cons, List.sum_nil]
  omega

theorem sum_phases_fast (n : BePhase → Nat) : ((phasesFrom .fast .dsu).map n).sum = n .dsu + n .dst + n .dhd := by
  simp only [phasesFrom, List.map_cons, List.map_nil, List.sum_cons, List.sum_nil]
  omega

theorem sum_phases_select (n : BePhase → Nat) : ((phasesFrom .select .sel).map n).sum = n .sel := by simp [phasesFrom]

/-- Those phases make a full write's length (R328). -/
theorem sum_phaseLength_write (cfg : Config) :
    ((phasesFrom .write .asu).map (phaseLength cfg)).sum = writeLength cfg := by
  rw [sum_phases_write]
  simp only [phaseLength, writeLength]
  generalize cfg.nSu = su, cfg.nApw = apw, cfg.nDpw = dpw, cfg.nHd = hd
  omega

/-- The length of a job is that of its phases (R123, R127). -/
theorem jobLength_eq_phases (j : JobReq) (s : State) :
    jobLength j s =
      ((phasesFrom (resolve j s).kind (firstPhase (resolve j s) s)).map (phaseLength s.cfg)).sum := by
  cases hk : (resolve j s).kind
  case select =>
    have hfirst : firstPhase (resolve j s) s = .sel := by simp [firstPhase, hk]
    rw [hfirst, sum_phases_select]
    simp [jobLength, hk, phaseLength]
  case fast =>
    have hfirst : firstPhase (resolve j s) s = .dsu := by simp [firstPhase, hk]
    rw [hfirst, sum_phases_fast]
    simp [jobLength, hk, phaseLength]
  case write =>
    by_cases hc : s.bus.selCache = some j.chip
    · have hfirst : firstPhase (resolve j s) s = .asu := by simp [firstPhase, hk, hc]
      rw [hfirst, sum_phaseLength_write]
      simp [jobLength, hk, hc]
    · have hfirst : firstPhase (resolve j s) s = .sel := by simp [firstPhase, hk, hc]
      rw [hfirst, phasesFrom_next (q := .asu) rfl, List.map_cons, List.sum_cons, sum_phaseLength_write]
      simp [jobLength, hk, hc, phaseLength]

/-- How long jobs take depends on the parameters and the tracker alone (R123). -/
theorem jobsLength_congr (js : List JobReq) {u a : State} (hcfg : u.cfg = a.cfg) (hbus : u.bus = a.bus) :
    jobsLength js u = jobsLength js a := by
  induction js generalizing u a with
  | nil => rfl
  | cons j js ih =>
    have hjob : jobLength j u = jobLength j a := by simp only [jobLength, resolve_congr hbus, hcfg, hbus]
    have hafter : (runJob u j).bus = (runJob a j).bus := by
      simp only [runJob, resolve_congr hbus]
      split <;> simp [hbus]
    simp only [jobsLength, hjob, ih (u := runJob u j) (a := runJob a j) (by simp [hcfg]) hafter]

/-! ### Atomicity: what is left of a transaction, and for how long (R127, R329) -/

/-- The state with the running job's phases run to their end. -/
def finishJob (s : State) : State := runPhases s.be.beJob (phasesFrom s.be.beJob.kind s.be.beState) s

/-- The state with the running job and all jobs after it run to their end. -/
def flush (s : State) : State := runJobs (s.tx.txJobs.drop (nextIdx s)) (finishJob s)

/-- The cycles left of the running job. -/
def jobCyclesLeft (s : State) : Nat :=
  (if s.be.beState = .idle then 0 else s.be.beCnt) +
    ((phasesFrom s.be.beJob.kind s.be.beState).tail.map (phaseLength s.cfg)).sum

/-- The cycles left before the final cycle of the transaction. -/
def cyclesLeft (s : State) : Nat := jobCyclesLeft s + jobsLength (s.tx.txJobs.drop (nextIdx s)) (finishJob s)

/-- What is left after the running job is left after its end, whatever the phase it is in. -/
theorem left_of_finishJob {u a : State} (hjob : (finishJob u).shared = (finishJob a).shared) (hidx : nextIdx u = nextIdx a)
    (hjobs : u.tx.txJobs = a.tx.txJobs) :
    (flush u).shared = (flush a).shared ∧ cyclesLeft u + jobCyclesLeft a = cyclesLeft a + jobCyclesLeft u := by
  obtain ⟨hcfg, -, hbus, -⟩ := shared_eq_iff.mp hjob
  unfold flush cyclesLeft
  rw [hidx, hjobs, jobsLength_congr _ hcfg hbus]
  exact ⟨actsOnShared_runJobs _ hjob, by omega⟩

/-- What is left depends on the shared state, the engine and the sequencer alone. -/
theorem left_congr {u a : State} (h : u.shared = a.shared) (hbe : u.be = a.be) (htx : u.tx = a.tx) :
    (flush u).shared = (flush a).shared ∧ cyclesLeft u = cyclesLeft a := by
  have hjob : (finishJob u).shared = (finishJob a).shared := by
    unfold finishJob
    rw [hbe]
    exact actsOnShared_runPhases _ _ h
  have hsame : jobCyclesLeft u = jobCyclesLeft a := by
    obtain ⟨hcfg, -⟩ := shared_eq_iff.mp h
    simp only [jobCyclesLeft, hbe, hcfg]
  obtain ⟨hflush, hleft⟩ := left_of_finishJob hjob (by simp only [nextIdx, hbe, htx]) (by rw [htx])
  rw [hsame] at hleft
  exact ⟨hflush, Nat.add_right_cancel hleft⟩

/-- An idle engine has no phase left to run. -/
theorem finishJob_of_idle {s : State} (h : s.be.beState = .idle) : finishJob s = s := by
  simp [finishJob, h, phasesFrom, runPhases]

theorem jobCyclesLeft_of_idle {s : State} (h : s.be.beState = .idle) : jobCyclesLeft s = 0 := by
  simp [jobCyclesLeft, h, phasesFrom]

/-- The transaction is in a phase of one of its jobs, with cycles of it left. -/
def MidJob (s : State) : Prop := s.tx.txPhase = .jobs ∧ s.be.beState ≠ .idle ∧ 1 ≤ s.be.beCnt

theorem startJob_left (j : JobReq) (s : State) :
    (finishJob (startJob j s)).shared = (runJob s j).shared ∧ jobCyclesLeft (startJob j s) = jobLength j s := by
  constructor
  · rw [runJob_shared]
    exact actsOnShared_runPhases _ _ rfl
  · have hne := firstPhase_ne_idle (resolve j s) s
    rw [jobLength_eq_phases, phasesFrom_eq_cons _ hne]
    simp only [jobCyclesLeft, startJob_beState, startJob_beJob, hne, if_false, List.map_cons, List.sum_cons]
    rfl

/-- Between two jobs: what the engine takes up next is what is left to do, and takes that long (R127). -/
theorem nextJob_left {s : State} (ho : s.tx.owner ≠ .nobody) :
    (flush (nextJob s)).shared = (runJobs (s.tx.txJobs.drop (nextIdx s)) s).shared ∧
    cyclesLeft (nextJob s) = jobsLength (s.tx.txJobs.drop (nextIdx s)) s := by
  rcases nextJob_cases s with ⟨hn, -⟩ | ⟨j, -, hj, e⟩ | ⟨-, hj, e⟩
  · exact absurd hn ho
  · obtain ⟨hlt, hget⟩ := List.getElem?_eq_some_iff.mp hj
    have hdrop : s.tx.txJobs.drop (nextIdx s) = j :: s.tx.txJobs.drop (nextIdx s + 1) := by
      rw [List.drop_eq_getElem_cons hlt, hget]
    obtain ⟨hjob, hlen⟩ := startJob_left j { s with tx := { s.tx with txIdx := nextIdx s } }
    have hshared : (finishJob (nextJob s)).shared = (runJob s j).shared := by
      rw [e, hjob]
      exact actsOnShared_runJob j rfl
    have hidx : nextIdx (nextJob s) = nextIdx s + 1 := by
      rw [e]
      simp [nextIdx, firstPhase_ne_idle]
    have htx : (nextJob s).tx.txJobs = s.tx.txJobs := by rw [e]; rfl
    obtain ⟨hcfg, -, hbus, -⟩ := shared_eq_iff.mp hshared
    constructor
    · rw [flush, hidx, htx, hdrop]
      exact actsOnShared_runJobs _ hshared
    · rw [cyclesLeft, hidx, htx, hdrop, jobsLength, jobsLength_congr _ hcfg hbus, e, hlen]
      rfl
  · have hdrop : s.tx.txJobs.drop (nextIdx s) = [] := List.drop_eq_nil_of_le (List.getElem?_eq_none_iff.mp hj)
    have hidle : (nextJob s).be.beState = .idle := by rw [e]; rfl
    have hleft : (nextJob s).tx.txJobs.drop (nextIdx (nextJob s)) = [] := by
      simp only [nextIdx, hidle, if_true]
      rw [e]
      exact hdrop
    constructor
    · rw [flush, hleft, hdrop, finishJob_of_idle hidle, e]
      rfl
    · rw [cyclesLeft, hleft, hdrop, jobCyclesLeft_of_idle hidle]
      rfl

end Sys2Proof.Machine

namespace Sys2Proof.Machine

/-! ### Atomicity: one cycle of a transaction (R290) -/

/-- What an agent that does not meet the chips does to them: nothing. -/
theorem ChipBlind.keeps_chips {f : State → State} (hf : ChipBlind f) (s : State) :
    (f s).latch = s.latch ∧ (f s).mem = s.mem := by
  have hlatch : (f (withChips s.latch s.mem s)).latch = s.latch := by rw [hf]; rfl
  have hmem : (f (withChips s.latch s.mem s)).mem = s.mem := by rw [hf]; rfl
  exact ⟨hlatch, hmem⟩

/-- What the end of a phase does to the chips depends on the chips alone. -/
theorem chipEnd_eq_withChips (be : Engine) {s u : State} (hlatch : u.latch = s.latch) (hmem : u.mem = s.mem) :
    chipEnd be u = withChips (chipEnd be s).latch (chipEnd be s).mem u := by
  cases hb : be.beState <;> simp only [chipEnd, hb]
  case ast => simp [withChips, chipLatches, hlatch, hmem]
  case dst =>
    simp only [chipStores, hlatch]
    split <;> simp [withChips, hmem, ← hlatch]
  all_goals simp [withChips, ← hlatch, ← hmem]

/-- At the edge that ends a phase, what the engine does next and what the chips see are two parts of one step: the end of the
phase, chips included, then the engine (R62, R127). -/
theorem BusInv.clockPins_phase_end {s : State} (h : BusInv s) {f : State → State} (hf : ChipBlind f)
    (hcfg : (f (endPhase s)).cfg = s.cfg)
    (hend : s.be.beState = .ast ∨ s.be.beState = .dst → (f (endPhase s)).be.beState ≠ s.be.beState) :
    clockPins s.pins (f (endPhase s)) = drivePins (f (phaseEffect s.be.beJob s s.be.beState)) := by
  obtain ⟨hlatch, hmem⟩ := hf.keeps_chips (endPhase s)
  have hchips := chipEnd_eq_withChips s.be (u := drivePins (f (endPhase s))) hlatch hmem
  rw [h.clockPins_end_eq hcfg hend, hchips, ← chipEnd_endPhase,
    chipEnd_eq_withChips s.be (u := endPhase s) (s := endPhase s) rfl rfl, hf]
  rfl

theorem phaseEffect_be (j : Job) (s : State) (p : BePhase) : (phaseEffect j s p).be = s.be := by
  cases p <;> simp [phaseEffect]

theorem phaseEffect_tx (j : Job) (s : State) (p : BePhase) : (phaseEffect j s p).tx = s.tx := by
  cases p <;> simp [phaseEffect]

theorem phaseEffect_cfg (j : Job) (s : State) (p : BePhase) : (phaseEffect j s p).cfg = s.cfg := by
  cases p <;> simp [phaseEffect]

/-- One cycle of a running phase: no less is left to do, and one cycle less to do it in (R127). -/
theorem BusInv.engineCycle_left {s : State} (h : BusInv s) (hmid : MidJob s) :
    (flush (clockPins s.pins (engineCycle s))).shared = (flush s).shared ∧
    cyclesLeft (clockPins s.pins (engineCycle s)) + 1 = cyclesLeft s := by
  obtain ⟨-, hbusy, hcnt⟩ := hmid
  obtain ⟨ho, -⟩ := h.sequencer.jobs_of_busy hbusy
  rcases engineCycle_cases s with ⟨-, hlong, e⟩ | ⟨p, hshort, hp, e⟩ | ⟨hshort, hnone, e⟩ <;> rw [e]
  case inl =>
    rw [clockPins_of_pinsOk (u := { s with be := { s.be with beCnt := s.be.beCnt - 1 } }) h.pins]
    obtain ⟨hflush, hleft⟩ := left_of_finishJob (u := { s with be := { s.be with beCnt := s.be.beCnt - 1 } }) (a := s)
      (actsOnShared_runPhases _ _ rfl) rfl rfl
    refine ⟨hflush, ?_⟩
    have hcount : jobCyclesLeft { s with be := { s.be with beCnt := s.be.beCnt - 1 } } + 1 = jobCyclesLeft s := by
      simp only [jobCyclesLeft, hbusy, if_false]
      omega
    rw [← hcount, ← Nat.add_assoc, Nat.add_right_comm] at hleft
    exact Nat.add_right_cancel hleft
  all_goals
    have hone : s.be.beCnt = 1 := by
      by_contra hne
      exact hshort ⟨hbusy, by omega⟩
  case inr.inl =>
    obtain ⟨-, hp', -⟩ := nextPhase_busy hp
    have hv := h.clockPins_phase_end (f := enterPhase p) (fun _ _ _ => rfl) (by simp)
      fun _ => by simpa using nextPhase_ne hp
    rw [hv]
    obtain ⟨hflush, hleft⟩ := left_of_finishJob
      (u := drivePins (enterPhase p (phaseEffect s.be.beJob s s.be.beState))) (a := s)
      (by
        simp only [finishJob, drivePins_be, enterPhase_be, phaseEffect_be, phasesFrom_next hp]
        exact actsOnShared_runPhases _ _ rfl)
      (by simp [nextIdx, phaseEffect_tx, hp', hbusy]) (by simp [phaseEffect_tx])
    refine ⟨hflush, ?_⟩
    simp only [jobCyclesLeft, drivePins_be, drivePins_cfg, enterPhase_be, enterPhase_cfg, phaseEffect_be, phaseEffect_cfg,
      phasesFrom_next hp, List.tail_cons, hbusy, hp', if_false, hone] at hleft
    rw [phasesFrom_eq_cons _ hp', List.map_cons, List.sum_cons] at hleft
    simp only [List.tail_cons] at hleft
    generalize phaseLength s.cfg p = n at hleft
    omega
  case inr.inr =>
    have hv := h.clockPins_phase_end (f := nextJob) chipBlind_nextJob (by simp)
      fun hb => absurd hb (not_strobe_of_nextPhase_none hnone)
    have hfinish : finishJob s = phaseEffect s.be.beJob s s.be.beState := by
      rw [finishJob, phasesFrom_last hnone hbusy]
      rfl
    have hidx : nextIdx (finishJob s) = nextIdx s := by simp only [nextIdx, hfinish, phaseEffect_be, phaseEffect_tx]
    have htx : (finishJob s).tx = s.tx := by rw [hfinish, phaseEffect_tx]
    obtain ⟨hflush, hleft⟩ := nextJob_left (s := finishJob s) (by rw [htx]; exact ho)
    obtain ⟨hflush', hleft'⟩ := left_congr (u := drivePins (nextJob (finishJob s))) (a := nextJob (finishJob s)) rfl rfl rfl
    rw [hv, ← hfinish, hflush', hflush, hleft', hleft, hidx, htx, cyclesLeft]
    refine ⟨rfl, ?_⟩
    have hjob : jobCyclesLeft s = 1 := by simp [jobCyclesLeft, hbusy, hone, phasesFrom_last hnone hbusy]
    rw [hjob, Nat.add_comm]

end Sys2Proof.Machine

namespace Sys2Proof.Machine

/-! ### Atomicity: the cycles of a transaction, from the grant to the final cycle (R285) -/

/-- A transaction stands in a job or before its final cycle. -/
def Underway (s : State) : Prop := MidJob s ∨ s.tx.txPhase = .final

/-- The next job of a transaction starts; without one its next cycle is the final one (R127, R285). -/
theorem underway_nextJob {s : State} (ho : s.tx.owner ≠ .nobody)
    (hp : s.tx.txPhase = .jobs ∨ (s.tx.txPhase = .final ∧ s.tx.txJobs = [])) : Underway (nextJob s) := by
  rcases nextJob_cases s with ⟨hn, -⟩ | ⟨j, -, hj, e⟩ | ⟨-, -, e⟩
  · exact absurd hn ho
  · have hjobs : s.tx.txPhase = .jobs := by
      rcases hp with hp | ⟨-, hnil⟩
      · exact hp
      · simp [hnil] at hj
    rw [e]
    exact .inl ⟨hjobs, firstPhase_ne_idle _ _, phaseLength_pos _ (firstPhase_ne_idle _ _)⟩
  · rw [e]
    refine .inr ?_
    show (if s.tx.txPhase = .jobs then TxPhase.final else s.tx.txPhase) = .final
    rcases hp with hp | ⟨hp, -⟩ <;> simp [hp]

theorem underway_engineCycle {s : State} (ho : s.tx.owner ≠ .nobody) (hmid : MidJob s) : Underway (engineCycle s) := by
  obtain ⟨hphase, hbusy, -⟩ := hmid
  rcases engineCycle_cases s with ⟨-, hlong, e⟩ | ⟨p, -, hp, e⟩ | ⟨-, -, e⟩ <;> rw [e]
  · refine .inl ⟨hphase, hbusy, ?_⟩
    show 1 ≤ s.be.beCnt - 1
    omega
  · obtain ⟨-, hp', -⟩ := nextPhase_busy hp
    exact .inl ⟨by simpa using hphase, by simpa using hp', by simpa using phaseLength_pos s.cfg hp'⟩
  · exact underway_nextJob (by simpa using ho) (.inl (by simpa using hphase))

theorem nextJob_txJobs (s : State) : (nextJob s).tx.txJobs = s.tx.txJobs := by
  rcases nextJob_cases s with ⟨-, e⟩ | ⟨j, -, -, e⟩ | ⟨-, -, e⟩ <;> rw [e] <;> rfl

theorem engineCycle_txJobs (s : State) : (engineCycle s).tx.txJobs = s.tx.txJobs := by
  rcases engineCycle_cases s with ⟨-, -, e⟩ | ⟨p, -, -, e⟩ | ⟨-, -, e⟩ <;> rw [e] <;> simp [nextJob_txJobs]

/-- The receiver, the tick generator and the host port write nothing a transaction shares, nor the engine, nor the
sequencer (R44, R286). -/
theorem runCycle_bus (i : PinsIn) (s : State) :
    (runCycle i s).shared = (clockPins s.pins (txCycle (clearDone s))).shared ∧
    (runCycle i s).be = (clockPins s.pins (txCycle (clearDone s))).be ∧
    (runCycle i s).tx = (clockPins s.pins (txCycle (clearDone s))).tx := by
  have hrun : runCycle i s = acceptHost i s.host.hostPending
      (tickCycle (receiverCycle i (clockPins s.pins (txCycle (clearDone s))))) := rfl
  rw [hrun]
  exact ⟨by simp [shared_eq_iff], by simp, by simp⟩

/-- A full hold register keeps its frame whatever arrives (R175). -/
theorem receiverCycle_hold_of_full {s : State} (h : s.hold.holdFull = true) (i : PinsIn) :
    (receiverCycle i s).hold = s.hold := by
  unfold receiverCycle receiveByte completeFrame holdFrame
  split
  · split
    · rfl
    · split <;> simp
  · simp

/-- In no cycle but a final one does the hold register change, if it is full (R175, R181). -/
theorem runCycle_hold_of_full {s : State} (h : s.hold.holdFull = true) (hp : s.tx.txPhase ≠ .final ∨ s.tx.owner = .nobody)
    (i : PinsIn) : (runCycle i s).hold = s.hold := by
  have htx : (txCycle (clearDone s)).hold = s.hold := by
    rw [txCycle_eq]
    split_ifs with ho ha hf
    · simp
    · simp
    · exact absurd hf (hp.resolve_right ho)
    · simp
  unfold runCycle
  simp only [acceptHost_hold, tickCycle_hold]
  rw [receiverCycle_hold_of_full (by simpa [htx] using h)]
  simpa using htx

/-- While its command is pending the host port changes in a final cycle alone (R128, R145). -/
theorem runCycle_host_of_pending {s : State} (h : s.host.hostPending = true) (hp : s.tx.txPhase ≠ .final) (i : PinsIn) :
    (runCycle i s).host = { s.host with hDoneO := false } := by
  simp [runCycle_host, txCycle_host, h, hp]

/-- `u` is a cycle of the transaction granted to `x` with jobs `js`, after the grant and not after the final cycle; `a` is the
state its jobs end in. -/
structure Within (x : Owner) (js : List JobReq) (a u : State) : Prop where
  inv : BusInv u
  owner : u.tx.owner = x
  jobs : u.tx.txJobs = js
  underway : Underway u
  flush : (flush u).shared = a.shared
  frame : x = .frame → u.hold = a.hold ∧ u.hold.holdFull = true
  host : x = .host → u.host.hostPending = true ∧ u.host.hostCmd = a.host.hostCmd

/-- A cycle of a job, whatever arrives in it, leaves the outcome as it is and is one cycle less to go. -/
theorem Within.runCycle {x : Owner} {js : List JobReq} {a u : State} (h : Within x js a u) (hx : x ≠ .nobody)
    (hmid : MidJob u) (i : PinsIn) :
    Within x js a (runCycle i u) ∧ cyclesLeft (runCycle i u) + 1 = cyclesLeft u := by
  have ho : u.tx.owner ≠ .nobody := h.owner ▸ hx
  have hphase : u.tx.txPhase ≠ .final := by simp [hmid.1]
  have htx : txCycle (clearDone u) = engineCycle (clearDone u) := by
    rw [txCycle_eq, if_neg (by exact ho), if_neg (by exact hphase)]
  obtain ⟨hshared, hbe, hseq⟩ := runCycle_bus i u
  rw [htx] at hshared hbe hseq
  have hdone : BusInv (clearDone u) := h.inv.congr rfl rfl rfl rfl rfl rfl fun _ => rfl
  obtain ⟨hflush, hleft⟩ := hdone.engineCycle_left hmid
  obtain ⟨hflush0, hleft0⟩ := left_congr (u := clearDone u) (a := u) rfl rfl rfl
  obtain ⟨hflush1, hleft1⟩ := left_congr hshared hbe hseq
  rw [clockPins_be] at hbe
  rw [clockPins_tx] at hseq
  refine ⟨⟨h.inv.runCycle i, ?_, ?_, ?_, ?_, fun hf => ?_, fun hh => ?_⟩, ?_⟩
  · simpa [hseq] using h.owner
  · simpa [hseq, engineCycle_txJobs] using h.jobs
  · have hnext := underway_engineCycle (s := clearDone u) ho hmid
    simpa only [Underway, MidJob, hbe, hseq] using hnext
  · exact hflush1.trans (hflush.trans (hflush0.trans h.flush))
  · obtain ⟨hhold, hfull⟩ := h.frame hf
    rw [runCycle_hold_of_full hfull (.inl hphase)]
    exact ⟨hhold, hfull⟩
  · obtain ⟨hpending, hcmd⟩ := h.host hh
    rw [runCycle_host_of_pending hpending hphase]
    exact ⟨hpending, hcmd⟩
  · rw [hleft1, ← hleft0]
    exact hleft

/-- Before the final cycle nothing is left to do. -/
theorem BusInv.left_of_final {u : State} (h : BusInv u) (hp : u.tx.txPhase = .final) :
    Machine.flush u = u ∧ cyclesLeft u = 0 := by
  have hidle := h.idle_of_final hp
  obtain ⟨-, -, -, -, hfinal⟩ := h.sequencer
  obtain ⟨-, -, hidx⟩ := hfinal hp
  have hdrop : u.tx.txJobs.drop (nextIdx u) = [] := by simp [nextIdx, hidle, hidx]
  rw [Machine.flush, cyclesLeft, hdrop, finishJob_of_idle hidle, jobCyclesLeft_of_idle hidle]
  exact ⟨rfl, rfl⟩

/-- A job that runs takes at least a cycle more. -/
theorem cyclesLeft_pos {u : State} (h : MidJob u) : 1 ≤ cyclesLeft u := by
  obtain ⟨-, hbusy, hcnt⟩ := h
  rw [cyclesLeft, jobCyclesLeft, if_neg hbusy]
  omega

/-- After the cycles left the transaction stands before its final cycle, in the state its jobs end in. -/
theorem Within.cycles {x : Owner} {js : List JobReq} {a u : State} (h : Within x js a u) (hx : x ≠ .nobody)
    {is : List PinsIn} (hrst : ∀ i ∈ is, i.rst = false) (hlen : is.length = cyclesLeft u) :
    Within x js a (cycles is u) ∧ (cycles is u).tx.txPhase = .final := by
  induction is generalizing u with
  | nil =>
    refine ⟨h, h.underway.resolve_left fun hmid => ?_⟩
    have := cyclesLeft_pos hmid
    simp only [List.length_nil] at hlen
    omega
  | cons i is ih =>
    have hmid : MidJob u := h.underway.resolve_right fun hp => by
      obtain ⟨-, hzero⟩ := h.inv.left_of_final hp
      simp [hzero] at hlen
    obtain ⟨hi, his⟩ := List.forall_mem_cons.mp hrst
    obtain ⟨hnext, hleft⟩ := h.runCycle hx hmid i
    have hcycle : cycle i u = Machine.runCycle i u := by simp [cycle, hi]
    rw [cycles_cons, hcycle]
    refine ih hnext his ?_
    simp only [List.length_cons] at hlen
    omega

theorem grantJobs_clearDone (x : Owner) (s : State) : grantJobs x (clearDone s) = grantJobs x s := by
  cases x
  case host => exact congrArg HostPlan.jobs (hostPlan_congr (u := clearDone s) rfl rfl _)
  all_goals rfl

theorem engineCycle_of_idle {s : State} (h : s.be.beState = .idle) : engineCycle s = nextJob s := by
  simp [engineCycle, h, nextPhase, endPhase_of_idle h]

/-- The grant cycle: the granted transaction opens and its first job starts, no strobe falling (R285). -/
theorem BusInv.clockPins_grant {s : State} (h : BusInv s) (hx : arbitrate s ≠ .nobody) :
    clockPins s.pins (txCycle (clearDone s)) = drivePins (nextJob (Machine.openTx (arbitrate s) (clearDone s))) := by
  have ho := owner_of_arbitrate s hx
  have hdone : BusInv (clearDone s) := h.congr rfl rfl rfl rfl rfl rfl fun _ => rfl
  have hopen := hdone.openTx hx (h.idle_of_free ho)
  have hidle : (Machine.openTx (arbitrate s) (clearDone s)).be.beState = .idle := by
    simpa using h.idle_of_free ho
  have htx : txCycle (clearDone s) = engineCycle (Machine.openTx (arbitrate s) (clearDone s)) := by
    rw [txCycle_eq, if_pos (by exact ho), if_neg (by exact hx)]
    rfl
  have hedge := hopen.clockPins_phase_end chipBlind_nextJob (by simp) fun hb => by
    rw [hidle] at hb
    simp at hb
  rw [endPhase_of_idle hidle, hidle, openTx_pins] at hedge
  rw [htx, engineCycle_of_idle hidle]
  exact hedge

/-- After the grant cycle the bus is that of the opened transaction with its first job taken up. -/
theorem BusInv.runCycle_grant {s : State} (h : BusInv s) (hx : arbitrate s ≠ .nobody) (i : PinsIn) :
    (Machine.runCycle i s).shared = (nextJob (Machine.openTx (arbitrate s) (clearDone s))).shared ∧
    (Machine.runCycle i s).be = (nextJob (Machine.openTx (arbitrate s) (clearDone s))).be ∧
    (Machine.runCycle i s).tx = (nextJob (Machine.openTx (arbitrate s) (clearDone s))).tx := by
  have hbus := runCycle_bus i s
  rw [h.clockPins_grant hx] at hbus
  exact hbus

/-- After the grant cycle all jobs are left to do, and they take as long as from the state of the grant (R285, R329). -/
theorem within_grant {s : State} (h : BusInv s) (hx : arbitrate s ≠ .nobody) (i : PinsIn) :
    Within (arbitrate s) (grantJobs (arbitrate s) s) (afterJobs (arbitrate s) s) (runCycle i s) ∧
    cyclesLeft (runCycle i s) = jobsLength (grantJobs (arbitrate s) s) s := by
  have ho := owner_of_arbitrate s hx
  obtain ⟨hshared, hbe, hseq⟩ := h.runCycle_grant hx i
  have htx : (openTx (arbitrate s) (clearDone s)).tx = ⟨arbitrate s,
      if (grantJobs (arbitrate s) s).isEmpty then .final else .jobs, grantJobs (arbitrate s) s, 0⟩ := by
    rw [openTx_tx, grantJobs_clearDone]
  have hidx : nextIdx (openTx (arbitrate s) (clearDone s)) = 0 := by simp [nextIdx, htx, h.idle_of_free ho]
  obtain ⟨hflush0, hleft0⟩ := left_congr hshared hbe hseq
  obtain ⟨hflush, hleft⟩ := nextJob_left (s := openTx (arbitrate s) (clearDone s)) (by rw [htx]; exact hx)
  rw [hidx, htx, List.drop_zero] at hflush hleft
  have hunder := underway_nextJob (s := openTx (arbitrate s) (clearDone s)) (by rw [htx]; exact hx) (by
    rw [htx]
    cases grantJobs (arbitrate s) s <;> simp)
  refine ⟨⟨h.runCycle i, ?_, ?_, ?_, ?_, fun hf => ?_, fun hh => ?_⟩, ?_⟩
  · simp [hseq]
  · simp [hseq, nextJob_txJobs, htx]
  · simpa only [Underway, MidJob, hbe, hseq] using hunder
  · exact hflush0.trans (hflush.trans (actsOnShared_runJobs (grantJobs (arbitrate s) s) rfl))
  · have hfull := holdFull_of_arbitrate_frame hf
    rw [runCycle_hold_of_full hfull (.inr ho)]
    exact ⟨by simp [afterJobs], hfull⟩
  · obtain ⟨-, hfree, -⟩ := h.sequencer
    have hgrant : s.tx.txPhase ≠ .final := by simp [hfree ho]
    have hpending := hostPending_of_arbitrate_host hh
    rw [runCycle_host_of_pending hpending hgrant]
    exact ⟨hpending, by simp [afterJobs]⟩
  · rw [hleft0]
    exact hleft.trans (jobsLength_congr (a := s) _ (by simp) (by simp))

end Sys2Proof.Machine

namespace Sys2Proof.Machine

/-! ### Atomicity: the final cycle (R145, R181, R229) -/

theorem actsOnShared_advance : ActsOnShared advance := fun h => by
  simp only [shared_eq_iff] at h ⊢
  simp [h]

theorem actsOnShared_slot1Apply (c : Chip) (voice : BitVec 2) (presc : BitVec 3) (count : Byte) :
    ActsOnShared (slot1Apply c voice presc count) := fun h => by
  simp only [shared_eq_iff] at h ⊢
  simp [h]

theorem actsOnShared_slot2Apply (c : Chip) (voice : BitVec 2) (presc : BitVec 3) (count : Byte) (id : BitVec 5) :
    ActsOnShared (slot2Apply c voice presc count id) := fun h => by
  unfold slot2Apply
  split
  · exact h
  · simp only [shared_eq_iff] at h ⊢
    simp [h, State.spAt]

theorem actsOnShared_frameFinal (c : Chip) (f : Frame) : ActsOnShared (frameFinal c f) := fun h =>
  actsOnShared_slot2Apply _ _ _ _ _ (actsOnShared_slot1Apply _ _ _ _ h)

theorem finishHost_shared (p : HostPlan) (s : State) : (finishHost p s).shared = s.shared := by simp [shared_eq_iff]

/-- What the final effects do to the shared state depends on it, and for a FRAME on the frame held (R181, R229). -/
theorem finalEffects_shared {x : Owner} {u a : State} (h : u.shared = a.shared) (hframe : x = .frame → u.hold = a.hold) :
    (finalEffects x u).shared = (finalEffects x a).shared := by
  cases x
  case nobody => exact h
  case sched => exact actsOnShared_advance h
  case frame =>
    simp only [finalEffects, hframe rfl]
    split
    · exact actsOnShared_frameFinal _ _ h
    · exact h
  case host => simpa only [finalEffects, finishHost_shared] using h

/-- The final cycle: the shared state is that of the final effects on the state the jobs end in, and the bus is free (R285). -/
theorem Within.final_cycle {x : Owner} {js : List JobReq} {a u : State} (h : Within x js a u) (hx : x ≠ .nobody)
    (hp : u.tx.txPhase = .final) (i : PinsIn) :
    (Machine.runCycle i u).shared = (finalEffects x a).shared ∧
    (Machine.runCycle i u).tx = { u.tx with owner := .nobody, txPhase := .grant } := by
  have hdone : BusInv (clearDone u) := h.inv.congr rfl rfl rfl rfl rfl rfl fun _ => rfl
  have htx : txCycle (clearDone u) = releaseBus (finalEffects x (clearDone u)) := by
    rw [txCycle_eq, if_neg (by simpa [h.owner] using hx), if_pos (by exact hp)]
    simp [h.owner]
  have hedge : clockPins u.pins (txCycle (clearDone u)) = releaseBus (finalEffects x (clearDone u)) := by
    have hrel := clockPins_of_pinsOk (hdone.release hp).pins
    simp only [releaseBus_pins, finalEffects_pins, clearDone_pins, clearDone_tx, h.owner] at hrel
    rw [htx, hrel]
  obtain ⟨hshared, -, hseq⟩ := runCycle_bus i u
  rw [hedge] at hshared hseq
  have hflush : u.shared = a.shared := by
    rw [← h.flush, (h.inv.left_of_final hp).1]
  refine ⟨hshared.trans (finalEffects_shared (u := clearDone u) hflush fun hf => (h.frame hf).1), ?_⟩
  simpa using hseq

/-! ### Atomicity: what the host sees (R99, R145) -/

/-- READ_STATUS alone answers STATUS (R142). -/
theorem eq_readStatus_of_data {i : Instr} {s : State} (h : (planOf i s).data = .status) : i = .readStatus := by
  cases i
  case readStatus => rfl
  case select =>
    simp only [planOf, planSelect] at h
    split at h <;> cases h
  case write =>
    simp only [planOf, planWrite] at h
    split at h <;> cases h
  case writeFast =>
    simp only [planOf, planWriteFast] at h
    split at h
    · cases h
    · split at h <;> cases h
  case rmw =>
    simp only [planOf, planRmw] at h
    split at h
    · cases h
    · split at h <;> cases h
  case readShadow =>
    simp only [planOf, planReadShadow] at h
    split at h
    · cases h
    · split at h <;> cases h
  all_goals cases h

/-- One word alone is READ_STATUS (R96). -/
theorem word_of_decodeHost_readStatus {w : HostWord} (h : decodeHost w = .ok .readStatus) : w = 0x60000000 := by
  have hrow : ∀ row i, decodeRow row w i = .ok .readStatus → i = .readStatus ∧ row.matches w = true := by
    intro row i hi
    unfold decodeRow at hi
    split at hi
    · next hm => exact ⟨Except.ok.inj hi, hm⟩
    · cases hi
  unfold decodeHost at h
  split at h
  case h_7 =>
    obtain ⟨-, hm⟩ := hrow _ _ h
    have hword : w &&& BitVec.allOnes 32 = 0x60000000 := of_decide_eq_true hm
    rwa [BitVec.and_allOnes] at hword
  case h_1 | h_2 | h_3 | h_4 | h_5 | h_6 => cases (hrow _ _ h).1
  all_goals cases h

theorem word_of_hostPlan_status {w : HostWord} {s : State} (h : (hostPlan w s).data = .status) : w = 0x60000000 := by
  unfold hostPlan at h
  split at h
  · next i hi =>
    rw [eq_readStatus_of_data h] at hi
    exact word_of_decodeHost_readStatus hi
  · cases h

theorem hostPlan_readStatus (s : State) : hostPlan 0x60000000 s = planReadStatus := by
  have hd : decodeHost 0x60000000 = .ok .readStatus := by decide
  simp only [hostPlan, hd, planOf]

/-- The answer of any other command is the byte of its plan, whatever the state it ends in. -/
theorem finishHost_rdata {p : HostPlan} (h : p.data ≠ .status) (u a : State) :
    (finishHost p u).host.hRdataO = (finishHost p a).host.hRdataO := by
  rcases p with ⟨e, js, d⟩
  cases d
  case byte b => cases e <;> rfl
  case status => exact absurd rfl h

/-- The end of a host command in its final cycle: its own code and byte, STATUS as it is then for READ_STATUS (R142, R145). -/
theorem Within.final_host {js : List JobReq} {a u : State} (h : Within .host js a u) (hp : u.tx.txPhase = .final)
    (i : PinsIn) :
    (Machine.runCycle i u).host.hErrO = (finalEffects .host a).host.hErrO ∧
    (Machine.runCycle i u).host.hDoneO = true ∧
    (Machine.runCycle i u).host.hostPending = false ∧
    (Machine.runCycle i u).host.hRdataO =
      if a.host.hostCmd = 0x60000000 then u.status else (finalEffects .host a).host.hRdataO := by
  obtain ⟨hpending, hcmd⟩ := h.host rfl
  have hflush : u.shared = a.shared := by rw [← h.flush, (h.inv.left_of_final hp).1]
  obtain ⟨-, -, hbus, hshadow, -⟩ := shared_eq_iff.mp hflush
  have hplan : hostPlan u.host.hostCmd (clearDone u) = hostPlan a.host.hostCmd a := by
    rw [hcmd]
    exact hostPlan_congr hbus hshadow _
  have hhost : (Machine.runCycle i u).host = (finishHost (hostPlan a.host.hostCmd a) (clearDone u)).host := by
    simp [runCycle_host, txCycle_host, hpending, h.owner, hp, hplan]
  have heffects : finalEffects .host a = finishHost (hostPlan a.host.hostCmd a) a := rfl
  obtain ⟨hfree, hdone, -, herr⟩ := finishHost_host (clearDone u) (hostPlan a.host.hostCmd a)
  obtain ⟨-, -, -, herr'⟩ := finishHost_host a (hostPlan a.host.hostCmd a)
  rw [hhost, heffects]
  refine ⟨herr.trans herr'.symm, hdone, hfree, ?_⟩
  split
  · next hw =>
    rw [hw, hostPlan_readStatus]
    rfl
  · next hw => exact finishHost_rdata (fun hd => hw (word_of_hostPlan_status hd)) _ _

/-! ### Atomicity (R286, R292) -/

theorem sharedEq_of_shared {u a : State} (h : u.shared = a.shared) (howner : u.tx.owner = a.tx.owner)
    (hphase : u.tx.txPhase = a.tx.txPhase) (hjobs : u.tx.txJobs = a.tx.txJobs) : SharedEq u a := by
  obtain ⟨hcfg, hmode, hbus, hshadow, hts, hsp, hslot, hled, htrace, -, -⟩ := shared_eq_iff.mp h
  exact ⟨hcfg, hmode, hbus, hshadow, hts, hsp, hslot, hled, howner, hphase, hjobs, htrace⟩

/-- The cycles of a transaction: its grant cycle, those of its jobs, and its final cycle. -/
theorem cycles_of_transaction {s : State} (h : BusInv s) (hx : arbitrate s ≠ .nobody) {is : List PinsIn}
    (hrst : ∀ i ∈ is, i.rst = false)
    (hlen : is.length = transactionLength (grantJobs (arbitrate s) s) s) :
    ∃ u i, u = cycles is.dropLast s ∧ cycles is s = runCycle i u ∧ u.tx.txPhase = .final ∧
      Within (arbitrate s) (grantJobs (arbitrate s) s) (afterJobs (arbitrate s) s) u := by
  unfold transactionLength at hlen
  have hne : is ≠ [] := by
    rintro rfl
    rw [List.length_nil] at hlen
    omega
  have hsplit := List.dropLast_append_getLast hne
  have hlast : (is.getLast hne).rst = false := hrst _ (List.getLast_mem hne)
  have hinit : ∀ i ∈ is.dropLast, i.rst = false := fun i hi => hrst i (List.dropLast_subset _ hi)
  have hcount : is.dropLast.length = 1 + jobsLength (grantJobs (arbitrate s) s) s := by
    rw [List.length_dropLast]
    omega
  refine ⟨cycles is.dropLast s, is.getLast hne, rfl, ?_, ?_⟩
  · conv_lhs => rw [← hsplit, cycles_append]
    simp [cycle, hlast]
  · cases hd : is.dropLast with
    | nil =>
      rw [hd] at hcount
      rw [List.length_nil] at hcount
      omega
    | cons i ks =>
      rw [hd] at hinit hcount
      obtain ⟨hi, hks⟩ := List.forall_mem_cons.mp hinit
      obtain ⟨hgrant, hleft⟩ := within_grant h hx i
      have hcycle : cycle i s = runCycle i s := by simp [cycle, hi]
      rw [cycles_cons, hcycle]
      refine (hgrant.cycles hx hks ?_).symm
      rw [hleft]
      simp only [List.length_cons] at hcount
      omega

/-- Settles O49: in every cycle the work left, done from there, ends in the same shared state; at the final cycle it is the
state the atomic transaction's jobs end in, and the final effects are the same function of it. -/
theorem transactionsAreAtomic : Obligations.TransactionsAreAtomic := by
  intro s is hinv _ hx hrst hlen
  obtain ⟨u, i, hu, hcycles, hfinal, hwithin⟩ := cycles_of_transaction hinv hx hrst hlen
  obtain ⟨hshared, htx⟩ := hwithin.final_cycle hx hfinal i
  have hcmd : (afterJobs (arbitrate s) s).host.hostCmd = s.host.hostCmd := by simp [afterJobs]
  obtain ⟨-, -, -, -, -, -, -, -, -, hlatch, hmem⟩ := shared_eq_iff.mp hshared
  refine ⟨_, transaction_eq hx, ?_⟩
  rw [hcycles, ← hu]
  refine ⟨sharedEq_of_shared hshared (by simp [htx]) (by simp [htx]) (by simp [htx, hwithin.jobs]), hlatch,
    fun a => by rw [hmem]; rfl, fun hhost => ?_⟩
  rw [hhost] at hwithin hcmd ⊢
  rw [← hcmd]
  exact hwithin.final_host hfinal i

end Sys2Proof.Machine

/-! # Proofs: encoding (30_encoding.md) -/

namespace Sys2Proof

open Machine (mustBeZero)

/-! ### The fields of a host word (R95) -/

/-- `RSVD`, W[20:16] (R95). -/
def rsvdOf (w : HostWord) : BitVec 5 := w.extractLsb' 16 5

theorem opOf_toNat (w : HostWord) : (opOf w).toNat = w.toNat / 2 ^ 28 := by
  have := w.isLt
  rw [opOf, BitVec.extractLsb'_toNat, Nat.shiftRight_eq_div_pow]
  omega

theorem chipOf_toNat (w : HostWord) : (chipOf w).toNat = w.toNat / 2 ^ 26 % 4 := by
  rw [chipOf, BitVec.extractLsb'_toNat, Nat.shiftRight_eq_div_pow]

theorem regOf_toNat (w : HostWord) : (regOf w).toNat = w.toNat / 2 ^ 21 % 32 := by
  rw [regOf, BitVec.extractLsb'_toNat, Nat.shiftRight_eq_div_pow]

@[simp] theorem rsvdOf_hostWord (op : BitVec 4) (chip : BitVec 2) (reg : RegAddr) (data aux : Byte) :
    rsvdOf (hostWord op chip reg data aux) = 0 := by
  unfold rsvdOf hostWord
  ext i hi
  simp only [BitVec.getElem_extractLsb', BitVec.getLsbD_append]
  interval_cases i <;> simp

/-- A word is 0 exactly when its six fields are. -/
theorem word_eq_zero_iff {w : HostWord} :
    w = 0#32 ↔ opOf w = 0 ∧ chipOf w = 0 ∧ regOf w = 0 ∧ rsvdOf w = 0 ∧ dataOf w = 0 ∧ auxOf w = 0 := by
  constructor
  · rintro rfl
    decide
  · rintro ⟨hop, hchip, hreg, hrsvd, hdata, haux⟩
    rw [← hostWord_of_fields w hrsvd, hop, hchip, hreg, hdata, haux]
    decide

/-- A field under a mask of ones. -/
theorem and_fullMask :
    (∀ x : BitVec 2, x &&& 3#2 = x) ∧ (∀ x : BitVec 4, x &&& 15#4 = x) ∧ (∀ x : BitVec 5, x &&& 31#5 = x) ∧
    (∀ x : Byte, x &&& 255#8 = x) :=
  ⟨fun _ => BitVec.and_allOnes, fun _ => BitVec.and_allOnes, fun _ => BitVec.and_allOnes, fun _ => BitVec.and_allOnes⟩

/-- The bits of a mask are 0 in a word exactly when they are 0 field by field. -/
theorem word_and_eq_zero_iff {w m : HostWord} :
    w &&& m = 0#32 ↔ opOf w &&& opOf m = 0 ∧ chipOf w &&& chipOf m = 0 ∧ regOf w &&& regOf m = 0 ∧
      rsvdOf w &&& rsvdOf m = 0 ∧ dataOf w &&& dataOf m = 0 ∧ auxOf w &&& auxOf m = 0 := by
  simp only [word_eq_zero_iff, opOf, chipOf, regOf, rsvdOf, dataOf, auxOf, BitVec.extractLsb'_and]

/-! ### The rows of the opcode table (R96) -/

/-- The opcode bits of a word, in place. -/
theorem and_opMask (w : HostWord) : w &&& 0xF0000000#32 = hostWord (opOf w) 0 0 0 0 := by
  refine (hostWord_of_fields (w &&& 0xF0000000#32) ?_).symm.trans ?_
  · simp [BitVec.extractLsb'_and]
  · simp only [opOf, chipOf, regOf, dataOf, auxOf, BitVec.extractLsb'_and]
    simp [and_fullMask]

/-- A row fixes the opcode `op` and asks the must-be-zero bits of `op` to be 0. -/
structure HostRow.Fixes (row : HostRow) (op : BitVec 4) : Prop where
  pattern : row.pattern = hostWord op 0 0 0 0
  mask : row.mask = 0xF0000000#32 ||| mustBeZero op.toNat
  disjoint : hostWord op 0 0 0 0 &&& mustBeZero op.toNat = 0

/-- A word with the row's opcode matches the row exactly when its must-be-zero bits are 0. -/
theorem HostRow.Fixes.matches_iff {row : HostRow} {w : HostWord} (h : row.Fixes (opOf w)) :
    row.matches w = true ↔ w &&& mustBeZero (opOf w).toNat = 0 := by
  obtain ⟨hpattern, hmask, hdisjoint⟩ := h
  rw [HostRow.matches, decide_eq_true_iff, hmask, hpattern, BitVec.and_or_distrib_left, and_opMask]
  constructor
  · intro he
    have hm := congrArg (· &&& mustBeZero (opOf w).toNat) he
    simp only [BitVec.and_or_distrib_right, hdisjoint, BitVec.and_assoc, BitVec.and_self] at hm
    simpa using hm
  · intro he
    rw [he]
    simp

/-- The row's operation when the must-be-zero bits are 0, otherwise `E_RSVD`. -/
theorem HostRow.Fixes.decodeRow {row : HostRow} {op : BitVec 4} (h : row.Fixes op) {w : HostWord} (hw : opOf w = op)
    (i : Instr) :
    decodeRow row w i = if w &&& mustBeZero op.toNat = 0 then .ok i else .error .reservedBits := by
  subst hw
  simp only [Sys2Proof.decodeRow, h.matches_iff]

section
variable {w : HostWord}

theorem decodeHost_nop (h : opOf w = 0) :
    decodeHost w = if w &&& mustBeZero 0 = 0 then .ok .nop else .error .reservedBits := by
  simp only [decodeHost, h]
  exact HostRow.Fixes.decodeRow ⟨by decide, by decide, by decide⟩ h _

theorem decodeHost_select (h : opOf w = 1) :
    decodeHost w = if w &&& mustBeZero 1 = 0 then .ok (.select (chipOf w)) else .error .reservedBits := by
  simp only [decodeHost, h]
  exact HostRow.Fixes.decodeRow ⟨by decide, by decide, by decide⟩ h _

theorem decodeHost_write (h : opOf w = 2) :
    decodeHost w =
      if w &&& mustBeZero 2 = 0 then .ok (.write (chipOf w) (regOf w) (dataOf w)) else .error .reservedBits := by
  simp only [decodeHost, h]
  exact HostRow.Fixes.decodeRow ⟨by decide, by decide, by decide⟩ h _

theorem decodeHost_writeFast (h : opOf w = 3) :
    decodeHost w =
      if w &&& mustBeZero 3 = 0 then .ok (.writeFast (chipOf w) (regOf w) (dataOf w)) else .error .reservedBits := by
  simp only [decodeHost, h]
  exact HostRow.Fixes.decodeRow ⟨by decide, by decide, by decide⟩ h _

theorem decodeHost_rmw (h : opOf w = 4) :
    decodeHost w =
      if w &&& mustBeZero 4 = 0 then .ok (.rmw (chipOf w) (regOf w) (dataOf w) (auxOf w))
      else .error .reservedBits := by
  simp only [decodeHost, h]
  exact HostRow.Fixes.decodeRow ⟨by decide, by decide, by decide⟩ h _

theorem decodeHost_readShadow (h : opOf w = 5) :
    decodeHost w =
      if w &&& mustBeZero 5 = 0 then .ok (.readShadow (chipOf w) (regOf w)) else .error .reservedBits := by
  simp only [decodeHost, h]
  exact HostRow.Fixes.decodeRow ⟨by decide, by decide, by decide⟩ h _

theorem decodeHost_readStatus (h : opOf w = 6) :
    decodeHost w = if w &&& mustBeZero 6 = 0 then .ok .readStatus else .error .reservedBits := by
  simp only [decodeHost, h]
  exact HostRow.Fixes.decodeRow ⟨by decide, by decide, by decide⟩ h _

/-- The opcodes: seven with a meaning, the rest reserved (R96). -/
theorem opcode_cases (op : BitVec 4) :
    op = 0 ∨ op = 1 ∨ op = 2 ∨ op = 3 ∨ op = 4 ∨ op = 5 ∨ op = 6 ∨ 7 ≤ op.toNat := by
  revert op
  decide

theorem reservedOpcode_cases {op : BitVec 4} (h : 7 ≤ op.toNat) :
    op = 0x7 ∨ op = 0x8 ∨ op = 0x9 ∨ op = 0xA ∨ op = 0xB ∨ op = 0xC ∨ op = 0xD ∨ op = 0xE ∨ op = 0xF := by
  revert op
  decide

/-- An opcode from 7 on decodes to its reserved operation, whatever the bits below it (R96, R143). -/
theorem decodeHost_reserved (h : 7 ≤ (opOf w).toNat) :
    ∃ i, decodeHost w = .ok i ∧ encode i = .word w ∧ ∀ s, Machine.planOf i s = Machine.planReserved := by
  have hword : ∀ {op}, opOf w = op → Encoded.word (reservedWord op (lowOf w)) = .word w := by
    rintro _ rfl
    exact congrArg Encoded.word (reservedWord_of_fields w)
  rcases reservedOpcode_cases h with hop | hop | hop | hop | hop | hop | hop | hop | hop <;>
    simp only [decodeHost, hop] <;> exact ⟨_, rfl, hword hop, fun _ => rfl⟩

/-! ### Which fields the must-be-zero bits are (R95, R96) -/

theorem mustBeZero_bare_iff {op : Nat} (h : op = 0 ∨ op = 6) :
    w &&& mustBeZero op = 0#32 ↔ chipOf w = 0 ∧ regOf w = 0 ∧ rsvdOf w = 0 ∧ dataOf w = 0 ∧ auxOf w = 0 := by
  rw [word_and_eq_zero_iff]
  rcases h with rfl | rfl <;> simp [mustBeZero, and_fullMask, opOf, chipOf, regOf, rsvdOf, dataOf, auxOf]

theorem mustBeZero_select_iff :
    w &&& mustBeZero 1 = 0#32 ↔ regOf w = 0 ∧ rsvdOf w = 0 ∧ dataOf w = 0 ∧ auxOf w = 0 := by
  rw [word_and_eq_zero_iff]
  simp [mustBeZero, and_fullMask, opOf, chipOf, regOf, rsvdOf, dataOf, auxOf]

theorem mustBeZero_write_iff {op : Nat} (h : op = 2 ∨ op = 3) :
    w &&& mustBeZero op = 0#32 ↔ rsvdOf w = 0 ∧ auxOf w = 0 := by
  rw [word_and_eq_zero_iff]
  rcases h with rfl | rfl <;> simp [mustBeZero, and_fullMask, opOf, chipOf, regOf, rsvdOf, dataOf, auxOf]

theorem mustBeZero_rmw_iff : w &&& mustBeZero 4 = 0#32 ↔ rsvdOf w = 0 := by
  rw [word_and_eq_zero_iff]
  simp [mustBeZero, and_fullMask, opOf, chipOf, regOf, rsvdOf, dataOf, auxOf]

theorem mustBeZero_readShadow_iff :
    w &&& mustBeZero 5 = 0#32 ↔ rsvdOf w = 0 ∧ dataOf w = 0 ∧ auxOf w = 0 := by
  rw [word_and_eq_zero_iff]
  simp [mustBeZero, and_fullMask, opOf, chipOf, regOf, rsvdOf, dataOf, auxOf]

end

/-! ### Every host word (R96, R100) -/

/-- A row's word decodes to the operation that encodes it, or has a must-be-zero bit set. -/
theorem roundTrip_of_row {w : HostWord} {op : Nat} {i : Instr} (hop : (opOf w).toNat = op) (hlt : op < 7)
    (hdecode : decodeHost w = if w &&& mustBeZero op = 0 then .ok i else .error .reservedBits)
    (hencode : w &&& mustBeZero op = 0 → encode i = .word w) :
    (∃ i, decodeHost w = .ok i ∧ encode i = .word w) ∨
    (decodeHost w = .error .reservedBits ∧ w.toNat / 2 ^ 28 < 7 ∧ w &&& mustBeZero (w.toNat / 2 ^ 28) ≠ 0) := by
  rw [← opOf_toNat, hop, hdecode]
  by_cases hz : w &&& mustBeZero op = 0
  · exact .inl ⟨i, if_pos hz, hencode hz⟩
  · exact .inr ⟨if_neg hz, hlt, hz⟩

/-- A word is the assembly of its fields, those that are 0 among them. -/
theorem word_hostWord_eq {w : HostWord} {op : BitVec 4} {chip : BitVec 2} {reg : RegAddr} {data aux : Byte}
    (hop : opOf w = op) (hchip : chipOf w = chip) (hreg : regOf w = reg) (hrsvd : rsvdOf w = 0)
    (hdata : dataOf w = data) (haux : auxOf w = aux) : Encoded.word (hostWord op chip reg data aux) = .word w := by
  subst hop hchip hreg hdata haux
  exact congrArg Encoded.word (hostWord_of_fields w hrsvd)

/-- Settles O3: opcode by opcode, a word whose must-be-zero bits are 0 is its fields put together. -/
theorem encodeInvertsHostDecode : Obligations.EncodeInvertsHostDecode := by
  intro w
  rcases opcode_cases (opOf w) with h | h | h | h | h | h | h | h
  · refine roundTrip_of_row (by rw [h]; rfl) (by decide) (decodeHost_nop h) fun hz => ?_
    obtain ⟨hchip, hreg, hrsvd, hdata, haux⟩ := (mustBeZero_bare_iff (.inl rfl)).mp hz
    exact word_hostWord_eq h hchip hreg hrsvd hdata haux
  · refine roundTrip_of_row (by rw [h]; rfl) (by decide) (decodeHost_select h) fun hz => ?_
    obtain ⟨hreg, hrsvd, hdata, haux⟩ := mustBeZero_select_iff.mp hz
    exact word_hostWord_eq h rfl hreg hrsvd hdata haux
  · refine roundTrip_of_row (by rw [h]; rfl) (by decide) (decodeHost_write h) fun hz => ?_
    obtain ⟨hrsvd, haux⟩ := (mustBeZero_write_iff (.inl rfl)).mp hz
    exact word_hostWord_eq h rfl rfl hrsvd rfl haux
  · refine roundTrip_of_row (by rw [h]; rfl) (by decide) (decodeHost_writeFast h) fun hz => ?_
    obtain ⟨hrsvd, haux⟩ := (mustBeZero_write_iff (.inr rfl)).mp hz
    exact word_hostWord_eq h rfl rfl hrsvd rfl haux
  · exact roundTrip_of_row (by rw [h]; rfl) (by decide) (decodeHost_rmw h) fun hz =>
      word_hostWord_eq h rfl rfl (mustBeZero_rmw_iff.mp hz) rfl rfl
  · refine roundTrip_of_row (by rw [h]; rfl) (by decide) (decodeHost_readShadow h) fun hz => ?_
    obtain ⟨hrsvd, hdata, haux⟩ := mustBeZero_readShadow_iff.mp hz
    exact word_hostWord_eq h rfl rfl hrsvd hdata haux
  · refine roundTrip_of_row (by rw [h]; rfl) (by decide) (decodeHost_readStatus h) fun hz => ?_
    obtain ⟨hchip, hreg, hrsvd, hdata, haux⟩ := (mustBeZero_bare_iff (.inr rfl)).mp hz
    exact word_hostWord_eq h hchip hreg hrsvd hdata haux
  · obtain ⟨i, hi, hword, -⟩ := decodeHost_reserved h
    exact .inl ⟨i, hi, hword⟩

/-! ### Slots (R86, R87) -/

theorem frameChip_of_byte {f : Frame} {c : Chip} (h : f[0] = BitVec.ofNat 8 c.val) : frameChip f = some c := by
  have := c.isLt
  rw [frameChip_eq_some, h, BitVec.toNat_ofNat]
  omega

/-- A voice field at bits 5:4 of a byte is read back (R86, R87). -/
theorem voiceField_append (voice : BitVec 2) : (0#2 ++ voice ++ 0#4 : Byte).extractLsb' 4 2 = voice := by
  revert voice
  decide

theorem voiceField_cases (voice : BitVec 2) : voice = 0 ∨ voice = 1 ∨ voice = 2 ∨ voice = 3 := by
  revert voice
  decide

/-- A prescaler field at bits 7:5 of a byte is read back, whatever the bits below it (R86, R87). -/
theorem prescField_append (presc : BitVec 3) (low : BitVec 5) : (presc ++ low : Byte).extractLsb' 5 3 = presc := by
  revert presc low
  decide

/-- The low five bits of a byte are read back, whatever the bits above them (R87). -/
theorem lowFive_append (high : BitVec 3) (low : BitVec 5) : lowFive (high ++ low) = low := by
  revert high low
  decide

theorem decodeSlot1_slot1Frame (c : Chip) (voice : BitVec 2) (presc : BitVec 3) (count : Byte) :
    decodeSlot1 (slot1Frame c voice presc count) = .ok (.slot1 c voice presc count) := by
  have hchip : frameChip (slot1Frame c voice presc count) = some c := frameChip_of_byte rfl
  have hvoice : slot1Voice (slot1Frame c voice presc count) = voice := voiceField_append voice
  have hpresc : slot1Presc (slot1Frame c voice presc count) = presc := prescField_append presc 0
  simp only [decodeSlot1, hchip, hvoice, hpresc]
  rfl

/-- ID2 is read back from the volume byte of the voice V2 names; with V2 = 0 there is none (R182, log 14). -/
theorem slot2Id_slot2Frame (c : Chip) {voice : BitVec 2} (presc : BitVec 3) (count : Byte) {id : BitVec 5}
    (h : sampleIdOk voice id = true) : slot2Id (slot2Frame c voice presc count id) = id := by
  have hvoice : slot2Voice (slot2Frame c voice presc count id) = voice := voiceField_append voice
  rw [slot2Id, hvoice]
  rcases voiceField_cases voice with rfl | rfl | rfl | rfl
  · have hid : id = 0 := by simpa [sampleIdOk] using h
    exact hid.symm
  · exact lowFive_append presc id
  · exact lowFive_append 0 id
  · exact lowFive_append 0 id

theorem decodeSlot2_slot2Frame (c : Chip) {voice : BitVec 2} (presc : BitVec 3) (count : Byte) {id : BitVec 5}
    (h : sampleIdOk voice id = true) :
    decodeSlot2 (slot2Frame c voice presc count id) = .ok (.slot2 c voice presc count id) := by
  have hchip : frameChip (slot2Frame c voice presc count id) = some c := frameChip_of_byte rfl
  have hvoice : slot2Voice (slot2Frame c voice presc count id) = voice := voiceField_append voice
  have hpresc : slot2Presc (slot2Frame c voice presc count id) = presc := prescField_append presc _
  simp only [decodeSlot2, hchip, hvoice, hpresc, slot2Id_slot2Frame c presc count h]
  rfl

/-- Settles O2: the fields of an assembled word are those put in and its must-be-zero bits are 0; a frame's bytes are the
frame; the slots' fields are read back from their bytes. -/
theorem decodeInvertsEncode : Obligations.DecodeInvertsEncode := by
  intro i hi
  cases i
  case nop => simp [encode, decode, decodeHost_nop, mustBeZero_bare_iff]
  case select chip => simp [encode, decode, decodeHost_select, mustBeZero_select_iff]
  case write chip r v => simp [encode, decode, decodeHost_write, mustBeZero_write_iff]
  case writeFast chip r v => simp [encode, decode, decodeHost_writeFast, mustBeZero_write_iff]
  case rmw chip r o a => simp [encode, decode, decodeHost_rmw, mustBeZero_rmw_iff]
  case readShadow chip r => simp [encode, decode, decodeHost_readShadow, mustBeZero_readShadow_iff]
  case readStatus => simp [encode, decode, decodeHost_readStatus, mustBeZero_bare_iff]
  case frame f =>
    obtain ⟨c, hc⟩ := Option.ne_none_iff_exists'.mp (frameOk_iff.mp hi)
    simp only [encode, decode_frame, decodeFrame, hc]
  case slot1 c voice presc count => exact decodeSlot1_slot1Frame c voice presc count
  case slot2 c voice presc count id => exact decodeSlot2_slot2Frame c presc count hi
  case tickDirect | tickRr => rfl
  all_goals simp [encode, decode, decodeHost]

/-! ### Frames (R80, R85, R94) -/

/-- The first 17 bytes are the frame, whatever follows (R94). -/
theorem frameOfBytes_append (f : Frame) (rest : List Byte) : frameOfBytes (f.toList ++ rest) = some (f, rest) := by
  have h := frameOfBytes_toList f
  generalize f.toList = l at h
  unfold frameOfBytes at h
  split at h
  · cases h; rfl
  · cases h

theorem frameOfBytes_short {bs : List Byte} (h : bs.length < 17) : frameOfBytes bs = none := by
  unfold frameOfBytes
  split
  · simp only [List.length_cons] at h
    omega
  · rfl

/-- Settles O4: the frame parser takes 17 bytes and leaves the rest; the chip check then reads the first byte. -/
theorem framesAreSeventeenBytes : Obligations.FramesAreSeventeenBytes := by
  intro f rest
  simp only [decodeSerial, frameOfBytes_append, decodeFrame]
  refine ⟨fun h => ?_, fun h => ?_, fun n hn => ?_⟩
  · obtain ⟨c, hc⟩ := Option.ne_none_iff_exists'.mp (frameOk_iff.mp (decide_eq_true h))
    rw [hc]
    rfl
  · rw [frameChip_eq_none.mpr h]
    rfl
  · rw [frameOfBytes_short (by simp [hn])]

/-! ### One word of every row, and the write masks (R84, R95) -/

/-- Settles O1: by evaluation of the decoder on each word. -/
theorem wordsDecodeAsTheSpecWritesThem : Obligations.WordsDecodeAsTheSpecWritesThem := by
  unfold Obligations.WordsDecodeAsTheSpecWritesThem
  decide

/-- Settles O34: by evaluation at each of the 32 registers. -/
theorem writeMasksAreTheTables : Obligations.WriteMasksAreTheTables := by
  unfold Obligations.WriteMasksAreTheTables
  decide

end Sys2Proof


namespace Sys2Proof.Machine

/-! ### Host checks (R97, R98, R129) -/

/-- The end of a rejected command without jobs: its code, data 0x00 and `HOST_ERR`, and nothing else (R129, R275). -/
theorem rejectedWith_hostTransaction {p : HostPlan} (hjobs : p.jobs = []) (herr : p.err ≠ .ok) (s : State) :
    RejectedWith s (hostTransaction p s) p.err.code := by
  have hend : finishHost p (runJobs p.jobs s) = rejectHost p.err s := by rw [hjobs, finishHost_rejected _ herr]; rfl
  have hhost : (hostTransaction p s).host = (rejectHost p.err s).host := by rw [hostTransaction_host, hend]
  have hstatus : (hostTransaction p s).status = s.status ||| 0x10 := by rw [hostTransaction_status, hend]; rfl
  have hresult : HostDone (hostTransaction p s) p.err.code 0 := by constructor <;> rw [hhost] <;> rfl
  exact ⟨hresult, hstatus, hostTransaction_frame p s, busKept_hostTransaction hjobs s⟩

/-- An operation whose plan is a rejection is rejected. -/
theorem exec_rejected {i : Instr} {s : State} {e : HostErr} (hi : exec i s = .next (hostTransaction (planOf i s) s))
    (hp : planOf i s = .reject e) (he : e ≠ .ok) : ∃ t, exec i s = .next t ∧ RejectedWith s t e.code := by
  rw [hi, hp]
  exact ⟨_, rfl, rejectedWith_hostTransaction rfl he s⟩

/-- Settles O16: each check makes the plan a rejection. -/
theorem valueChecksReject : Obligations.ValueChecksReject := by
  intro s chip r v a
  refine ⟨fun hchip => ?_, fun hchip hr => ?_, fun c hc hfast => ?_⟩
  · have hnone := chipOperand_eq_none.mpr hchip
    simp only [List.forall_mem_cons, List.not_mem_nil, false_implies, implies_true, and_true]
    refine ⟨?_, ?_, ?_, ?_, ?_⟩ <;> refine exec_rejected (e := .badChip) rfl ?_ (by decide)
    · simp only [planOf, planSelect, hnone]
    · simp only [planOf, planWrite, hnone]
    · simp only [planOf, planWriteFast, hnone]
    · simp only [planOf, planRmw, hnone]
    · simp only [planOf, planReadShadow, hnone]
  · obtain ⟨c, hc⟩ := Option.ne_none_iff_exists'.mp (mt chipOperand_eq_none.mp hchip)
    have hnone : shIdx r = none := shIdx_eq_none.mpr fun j hj => hr j hj.symm
    simp only [List.forall_mem_cons, List.not_mem_nil, false_implies, implies_true, and_true]
    refine ⟨?_, ?_⟩ <;> refine exec_rejected (e := .noShadow) rfl ?_ (by decide)
    · simp only [planOf, planRmw, hc, hnone]
    · simp only [planOf, planReadShadow, hc, hnone]
  · have hslow : ¬ fastOk c r s = true := mt fastOk_iff.mp hfast
    refine exec_rejected (e := .latch) rfl ?_ (by decide)
    simp only [planOf, planWriteFast, chipOperand_eq_some.mpr hc, hslow, Bool.false_eq_true, if_false]

/-! ### The order of the checks (R98) -/

/-- The checks of R98 on the fields of the word. -/
theorem hostVerdict_eq (w : HostWord) (b : BusTracker) :
    hostVerdict w b =
      if 7 ≤ (opOf w).toNat then 1
      else if w &&& mustBeZero (opOf w).toNat ≠ 0 then 2
      else if 1 ≤ (opOf w).toNat ∧ (opOf w).toNat ≤ 5 ∧ chipOperand (chipOf w) = none then 3
      else if ((opOf w).toNat = 4 ∨ (opOf w).toNat = 5) ∧ shIdx (regOf w) = none then 4
      else if (opOf w).toNat = 3 ∧ ¬ (b.selCache.map Fin.val = some (chipOf w).toNat ∧ b.latchValid = true ∧
        b.latchReg = regOf w) then 5
      else 0 := by
  have hchip : chipOperand (chipOf w) = none ↔ (chipOf w).toNat = 3 := by
    rw [chipOperand_eq_none]
    exact BitVec.toNat_inj.symm
  have hreg : shIdx (regOf w) = none ↔ (regOf w).toNat ∉ [7, 8, 9, 10, 14, 15] := by
    generalize regOf w = r
    revert r
    decide
  have hlatch : b.latchReg = regOf w ↔ b.latchReg.toNat = (regOf w).toNat := BitVec.toNat_inj.symm
  simp only [hostVerdict, ← opOf_toNat, ← chipOf_toNat, ← regOf_toNat, hchip, hreg, hlatch]

@[simp] theorem HostPlan.accept_err (js : List JobReq) (d : HostData) : (HostPlan.accept js d).err = .ok := rfl
@[simp] theorem HostPlan.reject_err (e : HostErr) : (HostPlan.reject e).err = e := rfl

/-- The code of a row's word: `E_RSVD` with a must-be-zero bit set, otherwise its operation's (R98). -/
theorem hostPlan_code_of_row {w : HostWord} {op : Nat} {i : Instr} (s : State)
    (h : decodeHost w = if w &&& mustBeZero op = 0 then .ok i else .error .reservedBits) :
    (hostPlan w s).err.code = if w &&& mustBeZero op ≠ 0 then 2 else (planOf i s).err.code := by
  by_cases hz : w &&& mustBeZero op = 0
  · simp only [hostPlan, h, hz, if_true, ne_eq, not_true_eq_false, if_false]
  · simp only [hostPlan, h, hz, if_false, ne_eq, not_false_eq_true, if_true]
    rfl

/-- `FastOK` on the fields of the word (R133). -/
theorem fastOk_iff_fields {w : HostWord} {c : Chip} {s : State} (hc : chipOperand (chipOf w) = some c) :
    fastOk c (regOf w) s = true ↔ s.bus.selCache.map Fin.val = some (chipOf w).toNat ∧ s.bus.latchValid = true ∧
      s.bus.latchReg = regOf w := by
  have hcache : s.bus.selCache.map Fin.val = some c.val ↔ s.bus.selCache = some c :=
    (Option.map_injective Fin.val_injective).eq_iff (b := some c)
  rw [fastOk_iff, chipOperand_eq_some.mp hc, hcache]

/-- A host word's plan has the code of the first check the word fails (R98). -/
theorem hostPlan_code (w : HostWord) (s : State) : (hostPlan w s).err.code = hostVerdict w s.bus := by
  rw [hostVerdict_eq]
  rcases opcode_cases (opOf w) with h | h | h | h | h | h | h | h
  · rw [hostPlan_code_of_row s (decodeHost_nop h), h]
    simp [planOf, planNop, HostErr.code]
  · rw [hostPlan_code_of_row s (decodeHost_select h), h]
    cases hc : chipOperand (chipOf w) <;> simp [planOf, planSelect, HostErr.code, hc]
  · rw [hostPlan_code_of_row s (decodeHost_write h), h]
    cases hc : chipOperand (chipOf w) <;> simp [planOf, planWrite, HostErr.code, hc]
  · rw [hostPlan_code_of_row s (decodeHost_writeFast h), h]
    cases hc : chipOperand (chipOf w)
    case none => simp [planOf, planWriteFast, HostErr.code, hc]
    case some c =>
      simp only [← fastOk_iff_fields hc]
      by_cases hf : fastOk c (regOf w) s = true <;> simp [planOf, planWriteFast, HostErr.code, hc, hf]
  · rw [hostPlan_code_of_row s (decodeHost_rmw h), h]
    cases hc : chipOperand (chipOf w) <;> cases hi : shIdx (regOf w) <;> simp [planOf, planRmw, HostErr.code, hc, hi]
  · rw [hostPlan_code_of_row s (decodeHost_readShadow h), h]
    cases hc : chipOperand (chipOf w) <;> cases hi : shIdx (regOf w) <;>
      simp [planOf, planReadShadow, HostErr.code, hc, hi]
  · rw [hostPlan_code_of_row s (decodeHost_readStatus h), h]
    simp [planOf, planReadStatus, HostErr.code]
  · obtain ⟨i, hi, -, hplan⟩ := decodeHost_reserved h
    simp only [hostPlan, hi, hplan, h, if_true]
    rfl

/-- Settles O17: the transaction's answer is its plan's code, and the plan's checks run in the order of R98. -/
theorem hostChecksRunInOrder : Obligations.HostChecksRunInOrder := by
  intro s rest hq hhost
  have hgrant : arbitrate { s with schedule := rest } = .host := hhost
  obtain ⟨t, ht⟩ := transaction_completes (s := { s with schedule := rest }) (by simp [hgrant])
  refine ⟨t, by rw [step, hq]; exact ht, ?_⟩
  rcases transaction_cases ht with ⟨-, rfl⟩ | ⟨c, ha, -⟩ | ⟨ha, -⟩ | ⟨ha, -⟩
  · obtain ⟨-, -, -, herr⟩ := finishHost_host (runJobs _ { s with schedule := rest }) (hostPlan s.host.hostCmd _)
    exact herr.trans (hostPlan_code _ _)
  all_goals simp [hgrant] at ha

/-! ### Placed words (log 25) -/

/-- What is placed is what the arbiter takes next: nothing else is requested, and the bus is free. -/
theorem step_withFetchWord {s : State} {nbits w : Nat} {e : Encoded} {i : Instr}
    (hf : fetch { s.withFetchWord nbits w with schedule := s.schedule } = some e) (hd : decode e = .ok i) :
    step (s.withFetchWord nbits w) = exec i { s.withFetchWord nbits w with schedule := s.schedule } := by
  have hq : (s.withFetchWord nbits w).schedule = .transaction :: s.schedule := by
    unfold State.withFetchWord withRequest
    split_ifs <;> rfl
  simp only [step, hq, transaction, hf, hd]

theorem fetch_withFetchWord_tick (s : State) (w : Nat) :
    fetch { s.withFetchWord 0 w with schedule := s.schedule } = some (.tick s.mode) := by
  simp [fetch, arbitrate, State.withFetchWord, withRequest]

theorem fetch_withFetchWord_word (s : State) {nbits : Nat} (w : Nat) (h0 : nbits ≠ 0) (h32 : nbits ≤ 32) :
    fetch { s.withFetchWord nbits w with schedule := s.schedule } = some (.word (BitVec.ofNat 32 w)) := by
  cases hb : s.cfg.arbFg <;> simp [fetch, arbitrate, foreground, State.withFetchWord, withRequest, h0, h32, hb]

theorem fetch_withFetchWord_frame (s : State) {nbits : Nat} (w : Nat) (h0 : nbits ≠ 0) (h32 : ¬ nbits ≤ 32) :
    fetch { s.withFetchWord nbits w with schedule := s.schedule } = some (.bytes (frameOfNat w).toList) := by
  cases hb : s.cfg.arbFg <;> simp [fetch, arbitrate, foreground, State.withFetchWord, withRequest, h0, h32, hb]

theorem ok_of_toOption {e : Except DecodeError Instr} {i : Instr} (h : e.toOption = some i) : e = .ok i := by
  cases e
  · cases h
  · exact congrArg Except.ok (Option.some.inj h)

/-- Settles O6: the request placed is fetched, and decodes as the table's numbering says. -/
theorem placedWordIsExecutedNext : Obligations.PlacedWordIsExecutedNext := by
  intro s nbits w
  refine ⟨fun i hi => ?_, step_withFetchWord (fetch_withFetchWord_tick s w) rfl⟩
  unfold decodeTableWord at hi
  split_ifs at hi with h0 h32
  · exact step_withFetchWord (fetch_withFetchWord_word s w h0 h32) (ok_of_toOption hi)
  · exact step_withFetchWord (fetch_withFetchWord_frame s w h0 h32)
      ((decode_frame _).trans (ok_of_toOption hi))

/-! ### SLOT1 (R183, R184, R88, R90) -/

theorem voiceOperand_eq_some {voice : BitVec 2} {v : Voice} : voiceOperand voice = some v ↔ voice.toNat = v.val + 1 := by
  revert voice v
  decide

/-- The reload is 0 exactly when its product is: the product fits 16 bits (R183). -/
theorem ticksOf_eq_zero {cfg : Config} {presc : BitVec 3} {count : Byte} :
    ticksOf cfg presc count = 0 ↔ (count.toNat + 1) * (cfg.prescale presc).toNat = 0 := by
  have hc := count.isLt
  have hp := (cfg.prescale presc).isLt
  have hfit : (count.toNat + 1) * (cfg.prescale presc).toNat ≤ 256 * 255 := Nat.mul_le_mul (by omega) (by omega)
  rw [ticksOf, ← BitVec.toNat_inj, BitVec.toNat_ofNat, Nat.mod_eq_of_lt (by omega)]
  rfl

theorem levelOf_eq (count : Byte) : levelOf count = BitVec.ofNat 4 (min (count.toNat % 32) 15) := by
  simp [levelOf, BitVec.extractLsb'_toNat]

/-- One voice of the chip after slot 1 (R184). -/
theorem slot1Chip_get (policy : TsPolicy) (voice : BitVec 2) (ticks : BitVec 16) (level : BitVec 4)
    (t : Triple TimerSynth) (v : Voice) :
    (slot1Chip policy voice ticks level t).get v =
      if voiceOperand voice = some v ∧ ticks ≠ 0 then .arm level ticks
      else if policy = .exclusive ∨ voiceOperand voice = some v then (t.get v).stop
      else t.get v := by
  unfold slot1Chip slot1Stops slot1Arms
  cases hv : voiceOperand voice with
  | none => cases policy <;> by_cases ht : ticks = 0#16 <;> simp [ht]
  | some w =>
    by_cases hvw : v = w
    · subst hvw
      cases policy <;> by_cases ht : ticks = 0#16 <;> simp [ht]
    · have hwv : w ≠ v := Ne.symm hvw
      cases policy <;> by_cases ht : ticks = 0#16 <;> simp [ht, hwv, Triple.get_set_ne _ hvw]

/-- Settles O22: voice by voice of the slot's chip; slot 1 writes the timer-synths of that chip alone. -/
theorem slot1ArmsOrStops : Obligations.Slot1ArmsOrStops := by
  intro s c voice presc count ticks
  refine ⟨slot1Apply c voice presc count s, rfl, fun v => ?_, fun c' v hc => ?_, rfl⟩
  · simp only [State.tsAt, slot1Apply_ts, Triple.get_set_same, slot1Chip_get, voiceOperand_eq_some, ne_eq, ticksOf_eq_zero,
      levelOf_eq]
    rfl
  · rw [State.tsAt, slot1Apply_ts, Triple.get_set_ne _ hc]
    rfl

end Sys2Proof.Machine


namespace Sys2Proof.Machine

/-! ### The engine and its pins over one cycle (R103, R104, R127) -/

/-- What one cycle can do to the engine: from `a` to `b` (R127). -/
inductive EngineMove (cfg : Config) (a b : Engine) : Prop where
  /-- The phase goes on. -/
  | holds (busy : a.beState ≠ .idle) (long : 1 < a.beCnt) (eq : b = { a with beCnt := a.beCnt - 1 })
  /-- The next phase of the job begins. -/
  | advances (p : BePhase) (ended : ¬ (a.beState ≠ .idle ∧ 1 < a.beCnt))
      (next : nextPhase a.beJob.kind a.beState = some p) (eq : b = ⟨p, phaseLength cfg p, a.beJob⟩)
  /-- A job begins. -/
  | begins (ended : ¬ (a.beState ≠ .idle ∧ 1 < a.beCnt)) (last : nextPhase a.beJob.kind a.beState = none)
      (first : b.beState = .sel ∨ b.beState = .asu ∨ b.beState = .dsu) (cnt : b.beCnt = phaseLength cfg b.beState)
  /-- The engine is idle. -/
  | stops (ended : ¬ (a.beState ≠ .idle ∧ 1 < a.beCnt)) (last : nextPhase a.beJob.kind a.beState = none)
      (idle : b.beState = .idle)

theorem firstPhase_cases (j : Job) (s : State) :
    firstPhase j s = .sel ∨ firstPhase j s = .asu ∨ firstPhase j s = .dsu := by
  unfold firstPhase
  split
  · exact .inl rfl
  · split
    · exact .inr (.inl rfl)
    · exact .inl rfl
  · exact .inr (.inr rfl)

theorem engineMove_engineCycle (s : State) : EngineMove s.cfg s.be (engineCycle s).be := by
  rcases engineCycle_cases s with ⟨hbusy, hlong, e⟩ | ⟨p, hended, hnext, e⟩ | ⟨hended, hlast, e⟩ <;> rw [e]
  · exact .holds hbusy hlong rfl
  · exact .advances p hended hnext (by simp)
  · rcases nextJob_cases (endPhase s) with ⟨-, e⟩ | ⟨j, -, -, e⟩ | ⟨-, -, e⟩ <;> rw [e]
    · exact .stops hended hlast rfl
    · exact .begins hended hlast (firstPhase_cases _ _) (by simp [startJob, enterPhase])
    · exact .stops hended hlast rfl

/-- The engine over a cycle without reset, where it is idle in a final cycle (R285). -/
theorem engineMove_cycle {s : State} (hfinal : s.tx.txPhase = .final → s.be.beState = .idle) {i : PinsIn}
    (hi : i.rst = false) : EngineMove s.cfg s.be (cycle i s).be := by
  obtain ⟨-, hbe, -⟩ := runCycle_bus i s
  rw [cycle, hi, if_neg (by simp), hbe, clockPins_be]
  rcases txCycle_cases (clearDone s) with ⟨-, -, e⟩ | ⟨-, -, e⟩ | ⟨-, hp, e⟩ | ⟨-, -, e⟩ <;> rw [e]
  · simpa using engineMove_engineCycle (clearDone s)
  · simpa using engineMove_engineCycle (openTx _ (clearDone s))
  · have hidle := hfinal hp
    exact .stops (by simp [hidle]) (by simp [hidle, nextPhase]) (by simpa using hidle)
  · simpa using engineMove_engineCycle (clearDone s)

/-- The pins after a cycle without reset are those of the phase it leads to (R103). -/
theorem cycle_pins {i : PinsIn} (hi : i.rst = false) (s : State) :
    (cycle i s).pins = pinsOf s.cfg (cycle i s).be s.pins := by
  obtain ⟨-, hbe, -⟩ := runCycle_bus i s
  have hrun : (runCycle i s).pins = pinsOf s.cfg (clockPins s.pins (txCycle (clearDone s))).be s.pins := by
    simp [runCycle]
  rw [cycle, hi, if_neg (by simp), hbe, hrun]

@[simp] theorem cycle_cfg (i : PinsIn) (s : State) : (cycle i s).cfg = s.cfg := by
  unfold cycle
  split <;> simp [runCycle]

theorem pinsOf_dO (cfg : Config) (be : Engine) (p : BusPins) :
    (pinsOf cfg be p).dO =
      if be.beState = .asu ∨ be.beState = .ast ∨ be.beState = .ahd then be.beJob.reg.setWidth 8
      else if be.beState = .dsu ∨ be.beState = .dst ∨ be.beState = .dhd then be.beJob.vm
      else p.dO := by
  cases hb : be.beState <;> simp [pinsOf, hb]

theorem pinsOf_selStbO (cfg : Config) (be : Engine) (p : BusPins) :
    (pinsOf cfg be p).selStbO = decide (be.beState = .sel) := by
  cases hb : be.beState <;> simp [pinsOf, hb]

/-- The pins that `pinsOf` drives are those of the phase table (R103). -/
theorem phasePins_pinsOf (cfg : Config) (be : Engine) (p : BusPins) :
    PhasePins cfg be.beJob be.beState p (pinsOf cfg be p) :=
  ⟨pinsOf_selStbO cfg be p, pinsOf_asO cfg be p, pinsOf_dsO cfg be p, pinsOf_selO cfg be p, pinsOf_dO cfg be p⟩

namespace EngineMove

variable {cfg : Config} {a b : Engine}

/-- The data lines change only in the first cycle of a setup phase (R103, R131). -/
theorem dO_eq_or_setup (m : EngineMove cfg a b) {p : BusPins} (hp : p = pinsOf cfg a p) :
    (pinsOf cfg b p).dO = p.dO ∨ ((b.beState = .asu ∨ b.beState = .dsu) ∧ b.beCnt = cfg.nSu) := by
  have hdO : (pinsOf cfg a p).dO = p.dO := congrArg BusPins.dO hp.symm
  rw [pinsOf_dO] at hdO ⊢
  cases m with
  | holds _ _ eq => exact .inl (by simpa [eq] using hdO)
  | advances q _ next eq =>
    subst eq
    rcases nextPhase_eq_some next with ⟨-, -, rfl⟩ | ⟨ha, rfl⟩ | ⟨ha, rfl⟩ | ⟨-, rfl⟩ | ⟨ha, rfl⟩ | ⟨ha, rfl⟩
    · exact .inr ⟨.inl rfl, rfl⟩
    · exact .inl (by simpa [ha] using hdO)
    · exact .inl (by simpa [ha] using hdO)
    · exact .inr ⟨.inr rfl, rfl⟩
    · exact .inl (by simpa [ha] using hdO)
    · exact .inl (by simpa [ha] using hdO)
  | begins _ _ first cnt =>
    rcases first with hb | hb | hb
    · exact .inl (by simp [hb])
    · exact .inr ⟨.inl hb, by rw [cnt, hb]; rfl⟩
    · exact .inr ⟨.inr hb, by rw [cnt, hb]; rfl⟩
  | stops _ _ idle => exact .inl (by simp [idle])

/-- A strobe goes on, or its hold phase begins (R104). -/
theorem of_strobe (m : EngineMove cfg a b) (ha : a.beState = .ast ∨ a.beState = .dst) :
    b.beState = a.beState ∨ ((b.beState = .ahd ∨ b.beState = .dhd) ∧ b.beCnt = cfg.nHd) := by
  cases m with
  | holds _ _ eq => exact .inl (by rw [eq])
  | advances q _ next eq =>
    subst eq
    refine .inr ?_
    rcases ha with ha | ha <;> rw [ha] at next <;> cases next
    · exact ⟨.inl rfl, rfl⟩
    · exact ⟨.inr rfl, rfl⟩
  | begins _ last _ _ => exact absurd ha (not_strobe_of_nextPhase_none last)
  | stops _ last _ => exact absurd ha (not_strobe_of_nextPhase_none last)

/-- A strobe has gone on, or its setup phase has just ended (R104). -/
theorem to_strobe (m : EngineMove cfg a b) (hb : b.beState = .ast ∨ b.beState = .dst) :
    a.beState = b.beState ∨ ((a.beState = .asu ∨ a.beState = .dsu) ∧ a.beCnt ≤ 1) := by
  cases m with
  | holds _ _ eq => exact .inl (by rw [eq])
  | advances q ended next eq =>
    subst eq
    refine .inr ?_
    rcases nextPhase_eq_some next with ⟨-, -, rfl⟩ | ⟨ha, rfl⟩ | ⟨ha, rfl⟩ | ⟨-, rfl⟩ | ⟨ha, rfl⟩ | ⟨ha, rfl⟩
    · simp at hb
    · exact ⟨.inl ha, by simpa [ha] using ended⟩
    · simp at hb
    · simp at hb
    · exact ⟨.inr ha, by simpa [ha] using ended⟩
    · simp at hb
  | begins _ _ first _ => rcases first with h | h | h <;> simp [h] at hb
  | stops _ _ idle => simp [idle] at hb

/-- A phase that is under way is the one of the cycle before, with a cycle more to go then (R127). -/
theorem of_under_way (m : EngineMove cfg a b) (hb : b.beState ≠ .idle) (hcnt : b.beCnt < phaseLength cfg b.beState) :
    a.beState = b.beState ∧ a.beCnt = b.beCnt + 1 := by
  cases m with
  | holds _ long eq => subst eq; exact ⟨rfl, by show a.beCnt = a.beCnt - 1 + 1; omega⟩
  | advances q _ _ eq => subst eq; exact absurd hcnt (Nat.lt_irrefl _)
  | begins _ _ _ cnt => omega
  | stops _ _ idle => exact absurd idle hb

/-- A phase with more than a cycle to go goes on (R127). -/
theorem goes_on (m : EngineMove cfg a b) (ha : a.beState ≠ .idle) (hcnt : 1 < a.beCnt) :
    b = { a with beCnt := a.beCnt - 1 } := by
  cases m with
  | holds _ _ eq => exact eq
  | advances _ ended | begins ended | stops ended => exact absurd ⟨ha, hcnt⟩ ended

end EngineMove

theorem pinsOk_cycle (s : State) {i : PinsIn} (hi : i.rst = false) : PinsOk (cycle i s) := by
  rw [PinsOk, cycle_pins hi, cycle_cfg, pinsOf_idem]

@[simp] theorem cycles_cfg (is : List PinsIn) (s : State) : (cycles is s).cfg = s.cfg := by
  induction is generalizing s with
  | nil => rfl
  | cons i is ih => rw [cycles_cons, ih, cycle_cfg]

/-! ### Strobes and stability (R131) -/

theorem busInv_cycle {s : State} (h : BusInv s) {i : PinsIn} (hi : i.rst = false) : BusInv (cycle i s) := by
  rw [cycle, hi, if_neg (by simp)]
  exact h.runCycle i

theorem busInv_cycles {s : State} (h : BusInv s) {js : List PinsIn} (hjs : ∀ k ∈ js, k.rst = false) :
    BusInv (cycles js s) := by
  induction js generalizing s with
  | nil => exact h
  | cons k js ih =>
    obtain ⟨hk, hrest⟩ := List.forall_mem_cons.mp hjs
    exact ih (busInv_cycle h hk) hrest

theorem BusInv.engineMove {s : State} (h : BusInv s) {i : PinsIn} (hi : i.rst = false) :
    EngineMove s.cfg s.be (cycle i s).be :=
  engineMove_cycle h.idle_of_final hi

/-- A strobe is up exactly in its phase (R103). -/
theorem PinsOk.strobe_iff {s : State} (h : PinsOk s) :
    (s.pins.asO = true ∨ s.pins.dsO = true) ↔ (s.be.beState = .ast ∨ s.be.beState = .dst) := by
  rw [h.asO, h.dsO, decide_eq_true_iff, decide_eq_true_iff]

theorem PinsOk.selStbO {s : State} (h : PinsOk s) : s.pins.selStbO = decide (s.be.beState = .sel) := by
  rw [h]
  exact pinsOf_selStbO _ _ _

/-- The data lines change only in the first cycle of a setup phase. -/
theorem BusInv.dO_eq_or_setup {s : State} (h : BusInv s) {i : PinsIn} (hi : i.rst = false) :
    (cycle i s).pins.dO = s.pins.dO ∨
      (((cycle i s).be.beState = .asu ∨ (cycle i s).be.beState = .dsu) ∧
        (cycle i s).be.beCnt = s.cfg.nSu) := by
  rw [cycle_pins hi]
  exact (h.engineMove hi).dO_eq_or_setup h.pins

/-- Before or after a cycle with a strobe the data lines hold. -/
theorem BusInv.dO_eq_of_strobe {s : State} (h : BusInv s) {i : PinsIn} (hi : i.rst = false)
    (hs : (s.be.beState = .ast ∨ s.be.beState = .dst) ∨
      ((cycle i s).be.beState = .ast ∨ (cycle i s).be.beState = .dst)) :
    (cycle i s).pins.dO = s.pins.dO := by
  refine (h.dO_eq_or_setup hi).resolve_right fun ⟨hsetup, _⟩ => ?_
  rcases hs with hs | hs
  · rcases (h.engineMove hi).of_strobe hs with hb | ⟨hb, -⟩
    · rw [hb] at hsetup
      rcases hs with hs | hs <;> simp [hs] at hsetup
    · rcases hb with hb | hb <;> simp [hb] at hsetup
  · rcases hs with hs | hs <;> simp [hs] at hsetup

/-- From any earlier cycle of a setup phase the data lines have held. -/
theorem BusInv.dO_held_in_setup {s : State} (h : BusInv s) {js : List PinsIn} (hjs : ∀ k ∈ js, k.rst = false)
    (hsetup : (cycles js s).be.beState = .asu ∨ (cycles js s).be.beState = .dsu)
    (hcnt : (cycles js s).be.beCnt + js.length ≤ s.cfg.nSu) : (cycles js s).pins.dO = s.pins.dO := by
  induction js using List.reverseRecOn with
  | nil => rfl
  | append_singleton js k ih =>
    have hk : k.rst = false := hjs k (by simp)
    have hrest : ∀ k ∈ js, k.rst = false := fun k hk => hjs k (by simp [hk])
    have hinv := busInv_cycles h hrest
    rw [cycles_append, cycles_cons, cycles_nil] at hsetup hcnt ⊢
    rw [List.length_append, List.length_singleton] at hcnt
    have hphase : phaseLength (cycles js s).cfg (cycle k (cycles js s)).be.beState = s.cfg.nSu := by
      rcases hsetup with hb | hb <;> rw [hb, cycles_cfg] <;> rfl
    obtain ⟨hstate, hprev⟩ := (hinv.engineMove hk).of_under_way (by rcases hsetup with hb | hb <;> simp [hb])
      (by rw [hphase]; omega)
    have hheld : (cycle k (cycles js s)).pins.dO = (cycles js s).pins.dO := by
      refine (hinv.dO_eq_or_setup hk).resolve_right fun ⟨_, hfirst⟩ => ?_
      rw [cycles_cfg] at hfirst
      omega
    rw [hheld]
    exact ih hrest (by rwa [hstate]) (by omega)

/-- As long as a hold phase has cycles to go the data lines hold. -/
theorem BusInv.dO_held_in_hold {s : State} (h : BusInv s) {js : List PinsIn} (hjs : ∀ k ∈ js, k.rst = false)
    (hhold : s.be.beState = .ahd ∨ s.be.beState = .dhd) (hcnt : js.length < s.be.beCnt) :
    (cycles js s).pins.dO = s.pins.dO := by
  induction js generalizing s with
  | nil => rfl
  | cons k js ih =>
    obtain ⟨hk, hrest⟩ := List.forall_mem_cons.mp hjs
    rw [List.length_cons] at hcnt
    have hbusy : s.be.beState ≠ .idle := by rcases hhold with hb | hb <;> simp [hb]
    have hgoes := (h.engineMove hk).goes_on hbusy (by omega)
    have hstate : (cycle k s).be.beState = s.be.beState := by rw [hgoes]
    have hheld : (cycle k s).pins.dO = s.pins.dO := by
      refine (h.dO_eq_or_setup hk).resolve_right fun ⟨hsetup, _⟩ => ?_
      rw [hstate] at hsetup
      rcases hhold with hb | hb <;> simp [hb] at hsetup
    rw [cycles_cons, ← hheld]
    exact ih (busInv_cycle h hk) hrest (by rwa [hstate]) (by rw [hgoes]; show js.length < s.be.beCnt - 1; omega)

/-- Settles O47: the data lines move only where a setup phase begins; a strobe rises only from the last cycle of its setup
phase, N_SU cycles long, and falls only into its hold phase, N_HD cycles long. -/
theorem pinsAreStableAroundStrobes : Obligations.PinsAreStableAroundStrobes := by
  intro s i hi h t
  have hinv : BusInv t := busInv_cycle h hi
  refine ⟨fun ⟨has, hds⟩ => ?_, fun hstrobe => ?_, fun hchange => (h.dO_eq_or_setup hi).resolve_left hchange,
    fun js hjs hlen hrise => ?_, fun js hjs hlen hfall => ?_, fun hchange => ?_⟩
  · rw [h.pins.asO, decide_eq_true_iff] at has
    simp [h.pins.dsO, has] at hds
  · refine h.dO_eq_of_strobe hi ?_
    rwa [← h.pins.strobe_iff, ← hinv.pins.strobe_iff, or_assoc]
  · have hu := busInv_cycles h hjs
    have hpins := pinsOk_cycle (cycles js s) hi
    have hup := hpins.strobe_iff.mp (hrise.imp And.right And.right)
    rw [hu.dO_eq_of_strobe hi (.inr hup)]
    rcases (hu.engineMove hi).to_strobe hup with hsame | ⟨hsetup, hcnt⟩
    · simp [hu.pins.asO, hu.pins.dsO, hpins.asO, hpins.dsO, hsame] at hrise
    · exact h.dO_held_in_setup hjs hsetup (by omega)
  · have hup := h.pins.strobe_iff.mp (hfall.imp And.left And.left)
    rw [← h.dO_eq_of_strobe hi (.inl hup)]
    rcases (h.engineMove hi).of_strobe hup with hsame | ⟨hhold, hcnt⟩
    · simp [h.pins.asO, h.pins.dsO, hinv.pins.asO, hinv.pins.dsO, t, hsame] at hfall
    · exact hinv.dO_held_in_hold hjs hhold (hlen.trans_eq hcnt.symm)
  · have hsel : t.be.beState = .sel := by
      by_contra hne
      refine hchange ?_
      show (cycle i s).pins.selO = _
      rw [cycle_pins hi, pinsOf_selO, if_neg hne]
    have hdown : ¬ (s.pins.asO = true ∨ s.pins.dsO = true) := by
      rw [h.pins.strobe_iff]
      intro hs
      rcases (h.engineMove hi).of_strobe hs with hb | ⟨hb, -⟩
      · rw [← hb] at hs
        simp [t, hsel] at hs
      · simp [t, hsel] at hb
    rw [not_or, Bool.not_eq_true, Bool.not_eq_true] at hdown
    simp [hinv.pins.selStbO, hinv.pins.asO, hinv.pins.dsO, hsel, hdown]

/-! ### A job's waveform (R104) -/

/-- The phases of a job are those from its first one on. -/
theorem phasesOf_eq_phasesFrom {k : JobKind} {selected : Bool} {p : BePhase}
    (h : (phasesOf k selected).head? = some p) : phasesOf k selected = phasesFrom k p := by
  cases k <;> cases selected <;> cases h <;> rfl

/-- The phases still to come of the running job, cycle by cycle, the running cycle first. -/
def cyclesToCome (cfg : Config) (be : Engine) : List BePhase :=
  List.replicate be.beCnt be.beState ++ phaseCycles cfg (phasesFrom be.beJob.kind be.beState).tail

theorem phaseCycles_cons (cfg : Config) (p : BePhase) (ps : List BePhase) :
    phaseCycles cfg (p :: ps) = List.replicate (phaseLength cfg p) p ++ phaseCycles cfg ps := rfl

/-- In the first cycle of a phase all its cycles and those of the later phases are to come. -/
theorem cyclesToCome_first (cfg : Config) (j : Job) {p : BePhase} (hp : p ≠ .idle) :
    cyclesToCome cfg ⟨p, phaseLength cfg p, j⟩ = phaseCycles cfg (phasesFrom j.kind p) := by
  rw [phasesFrom_eq_cons j.kind hp, phaseCycles_cons]
  rfl

/-- A job that has more cycles to come than the running one is not in the last cycle of its last phase. -/
theorem nextPhase_ne_none_of_more {cfg : Config} {a : Engine} (hbusy : a.beState ≠ .idle) (hcnt : a.beCnt ≤ 1)
    (hmore : 1 < (cyclesToCome cfg a).length) : nextPhase a.beJob.kind a.beState ≠ none := by
  intro hnone
  rw [cyclesToCome, phasesFrom_last hnone hbusy] at hmore
  simp [phaseCycles] at hmore
  omega

/-- A cycle of a job takes the first of the cycles to come away, as long as another is to come (R127). -/
theorem EngineMove.cyclesToCome {cfg : Config} {a b : Engine} (m : EngineMove cfg a b) (hbusy : a.beState ≠ .idle)
    (hcnt : 1 ≤ a.beCnt) (hmore : 1 < (cyclesToCome cfg a).length) :
    cyclesToCome cfg a = a.beState :: cyclesToCome cfg b ∧ b.beJob = a.beJob ∧ b.beState ≠ .idle ∧ 1 ≤ b.beCnt ∧
    (b.beState = .sel → a.beState = .sel) := by
  have hle : ¬ (a.beState ≠ .idle ∧ 1 < a.beCnt) → a.beCnt ≤ 1 := fun ended =>
    not_lt.mp fun hlong => ended ⟨hbusy, hlong⟩
  cases m with
  | holds _ long eq =>
    subst eq
    obtain ⟨n, hn⟩ : ∃ n, a.beCnt = n + 1 := ⟨a.beCnt - 1, by omega⟩
    refine ⟨?_, rfl, hbusy, by show 1 ≤ a.beCnt - 1; omega, id⟩
    simp [Machine.cyclesToCome, hn, List.replicate_succ]
  | advances q ended next eq =>
    subst eq
    obtain ⟨-, hq, hsel⟩ := nextPhase_busy next
    have hone : a.beCnt = 1 := le_antisymm (hle ended) hcnt
    refine ⟨?_, rfl, hq, phaseLength_pos cfg hq, fun hb => absurd hb hsel⟩
    rw [cyclesToCome_first cfg _ hq, Machine.cyclesToCome, hone, phasesFrom_next next]
    rfl
  | begins ended last | stops ended last => exact absurd last (nextPhase_ne_none_of_more hbusy (hle ended) hmore)

/-- In the middle of a job the sequencer stays as it is (R127). -/
theorem cycle_tx_of_more {u : State} (ho : u.tx.owner ≠ .nobody) (hjobs : u.tx.txPhase = .jobs)
    (hbusy : u.be.beState ≠ .idle) (hmore : 1 < (cyclesToCome u.cfg u.be).length) {i : PinsIn} (hi : i.rst = false) :
    (cycle i u).tx = u.tx := by
  obtain ⟨-, -, htx⟩ := runCycle_bus i u
  have hengine : txCycle (clearDone u) = engineCycle (clearDone u) := by
    rw [txCycle_eq, if_neg (by exact ho), if_neg (by simp [hjobs])]
  rw [cycle, hi, if_neg (by simp), htx, clockPins_tx, hengine]
  rcases engineCycle_cases (clearDone u) with ⟨-, -, e⟩ | ⟨p, -, -, e⟩ | ⟨hended, hlast, e⟩ <;> rw [e]
  · rfl
  · simp
  · exact absurd hlast (nextPhase_ne_none_of_more hbusy (not_lt.mp fun hlong => hended ⟨hbusy, hlong⟩) hmore)

/-- `u` is a cycle of the job running in `s`, with the pins of `s` held: the select code throughout, the data lines as long as
the selection phase lasts. -/
structure InJobOf (s u : State) : Prop where
  owner : u.tx.owner ≠ .nobody
  jobs : u.tx.txPhase = .jobs
  cfg : u.cfg = s.cfg
  job : u.be.beJob = s.be.beJob
  busy : u.be.beState ≠ .idle
  left : 1 ≤ u.be.beCnt
  pins : PinsOk u
  selO : u.pins.selO = s.pins.selO
  dO : u.be.beState = .sel → u.pins.dO = s.pins.dO

/-- The pins of such a cycle, against those of the job's first one (R103). -/
theorem InJobOf.phasePins {s u : State} (h : InJobOf s u) :
    PhasePins s.cfg s.be.beJob u.be.beState s.pins u.pins := by
  obtain ⟨hstb, has, hds, hsel, hd⟩ := phasePins_pinsOf u.cfg u.be u.pins
  rw [← h.pins] at hstb has hds hsel hd
  rw [h.cfg, h.job, h.selO] at hsel
  rw [h.job] at hd
  refine ⟨hstb, has, hds, h.selO.trans hsel, hd.trans ?_⟩
  cases hb : u.be.beState
  case idle => exact absurd hb h.busy
  case sel => simpa using h.dO hb
  all_goals rfl

/-- A cycle in the middle of the job leads to another one of the same job, with a cycle less to come. -/
theorem InJobOf.cycle {s u : State} (h : InJobOf s u) (hmore : 1 < (cyclesToCome s.cfg u.be).length) {i : PinsIn}
    (hi : i.rst = false) :
    InJobOf s (cycle i u) ∧ cyclesToCome s.cfg u.be = u.be.beState :: cyclesToCome s.cfg (cycle i u).be := by
  have htx := cycle_tx_of_more h.owner h.jobs h.busy (by rwa [h.cfg]) hi
  have hmove : EngineMove u.cfg u.be (Machine.cycle i u).be := engineMove_cycle (by simp [h.jobs]) hi
  rw [h.cfg] at hmove
  obtain ⟨hcome, hjob, hbusy, hleft, hsel⟩ := hmove.cyclesToCome h.busy h.left hmore
  have hpins : (Machine.cycle i u).pins = pinsOf u.cfg (Machine.cycle i u).be u.pins := cycle_pins hi u
  refine ⟨⟨htx ▸ h.owner, htx ▸ h.jobs, (cycle_cfg i u).trans h.cfg, hjob.trans h.job, hbusy, hleft, pinsOk_cycle u hi, ?_,
    fun hb => ?_⟩, hcome⟩
  · rw [hpins, pinsOf_selO, ← h.selO]
    split
    · next hb => rw [h.pins.selO_of_sel (hsel hb), hjob]
    · rfl
  · rw [hpins, pinsOf_dO, ← h.dO (hsel hb)]
    simp [hb]

/-- Cycle after cycle the job runs through the cycles to come (R104, R127). -/
theorem InJobOf.cycles {s u : State} (h : InJobOf s u) {is : List PinsIn} (his : ∀ i ∈ is, i.rst = false) {p : BePhase}
    (hp : (cyclesToCome s.cfg u.be)[is.length]? = some p) : InJobOf s (cycles is u) ∧ (cycles is u).be.beState = p := by
  induction is generalizing u with
  | nil =>
    obtain ⟨n, hn⟩ : ∃ n, u.be.beCnt = n + 1 := ⟨u.be.beCnt - 1, by have := h.left; omega⟩
    exact ⟨h, by simpa [cyclesToCome, hn, List.replicate_succ] using hp⟩
  | cons i is ih =>
    obtain ⟨hi, hrest⟩ := List.forall_mem_cons.mp his
    obtain ⟨hlen, -⟩ := List.getElem?_eq_some_iff.mp hp
    rw [List.length_cons] at hlen
    obtain ⟨hnext, hcome⟩ := h.cycle (by omega) hi
    rw [hcome, List.length_cons, List.getElem?_cons_succ] at hp
    exact ih hnext hrest hp

/-- Settles O48: in the first cycle of a job its whole waveform is to come, and every cycle takes one off it. -/
theorem jobsHaveTheirWaveform : Obligations.JobsHaveTheirWaveform := by
  intro s is selected p ho hjobs hpins his hfirst hcnt hp
  have hphases := phasesOf_eq_phasesFrom hfirst
  have hbusy : s.be.beState ≠ .idle := by
    intro hb
    rw [hb] at hfirst
    cases hk : s.be.beJob.kind <;> cases selected <;> simp [hk, phasesOf] at hfirst
  have hcome : cyclesToCome s.cfg s.be = phaseCycles s.cfg (phasesOf s.be.beJob.kind selected) := by
    rw [hphases, ← cyclesToCome_first s.cfg s.be.beJob hbusy, ← hcnt]
  have hstart : InJobOf s s :=
    ⟨ho, hjobs, rfl, rfl, hbusy, hcnt ▸ phaseLength_pos s.cfg hbusy, hpins, rfl, fun _ => rfl⟩
  obtain ⟨hin, hstate⟩ := hstart.cycles his (hcome ▸ hp)
  exact ⟨hstate, hin.job, hstate ▸ hin.phasePins⟩

end Sys2Proof.Machine

/-! # Proofs: the bus controller (40_bus_controller.md) -/

namespace Sys2Proof.Machine

/-! ### Every data event is masked (R122, R138) -/

/-- Every data event of a trace is masked. -/
def TraceMasked (tr : List BusEvent) : Prop :=
  ∀ (c : Chip) (r : RegAddr) (vm : Byte), BusEvent.data c r vm ∈ tr → vm &&& ~~~maskOf r = 0

/-- The value of the job running is masked. -/
def JobMasked (be : Engine) : Prop := be.beState ≠ .idle → be.beJob.vm &&& ~~~maskOf be.beJob.reg = 0

theorem traceMasked_append {tr tr' : List BusEvent} :
    TraceMasked (tr ++ tr') ↔ TraceMasked tr ∧ TraceMasked tr' := by
  simp only [TraceMasked, List.mem_append]
  exact ⟨fun h => ⟨fun c r v hv => h c r v (.inl hv), fun c r v hv => h c r v (.inr hv)⟩,
    fun ⟨h, h'⟩ c r v hv => hv.elim (h c r v) (h' c r v)⟩

theorem traceMasked_sel (c : Chip) : TraceMasked [.sel c] := by simp [TraceMasked]

theorem traceMasked_addr (c : Chip) (r : RegAddr) : TraceMasked [.addr c r] := by simp [TraceMasked]

theorem traceMasked_data {c : Chip} {r : RegAddr} {vm : Byte} (h : vm &&& ~~~maskOf r = 0) :
    TraceMasked [.data c r vm] := by
  intro c' r' vm' hv
  obtain ⟨-, rfl, rfl⟩ := BusEvent.data.inj (List.mem_singleton.mp hv)
  exact h

theorem traceMasked_writeEvents (cache : Option Chip) (c : Chip) (r : RegAddr) (v : Byte) :
    TraceMasked (writeEvents cache c r (v &&& maskOf r)) := by
  have hwrite : TraceMasked [.addr c r, .data c r (v &&& maskOf r)] :=
    traceMasked_append.mpr ⟨traceMasked_addr c r, traceMasked_data (masked_and_not v r)⟩
  refine traceMasked_append.mpr ⟨?_, hwrite⟩
  split
  · simp [TraceMasked]
  · exact traceMasked_sel c

/-- A job's data event carries its value masked (R122). -/
theorem traceMasked_runJob {s : State} (h : TraceMasked s.trace) (j : JobReq) : TraceMasked (runJob s j).trace := by
  have hfull := traceMasked_writeEvents s.bus.selCache j.chip j.reg j.value
  have hfast : TraceMasked [.data j.chip j.reg (j.value &&& maskOf j.reg)] := traceMasked_data (masked_and_not _ _)
  rcases runJob_cases s j with ⟨-, e⟩ | ⟨-, e⟩ | ⟨-, e⟩ | ⟨-, -, e⟩ | ⟨-, -, e⟩ <;> rw [e]
  · exact traceMasked_append.mpr ⟨h, traceMasked_sel _⟩
  · exact busWrite_trace_eq_writeEvents s _ _ _ ▸ traceMasked_append.mpr ⟨h, hfull⟩
  · exact busWriteFast_trace s _ _ _ ▸ traceMasked_append.mpr ⟨h, hfast⟩
  · exact busWriteFast_trace s _ _ _ ▸ traceMasked_append.mpr ⟨h, hfast⟩
  · exact busWrite_trace_eq_writeEvents s _ _ _ ▸ traceMasked_append.mpr ⟨h, hfull⟩

theorem traceMasked_runJobs {s : State} (h : TraceMasked s.trace) (js : List JobReq) :
    TraceMasked (runJobs js s).trace :=
  runJobs_keeps (P := fun u => TraceMasked u.trace) (fun _ j hu => traceMasked_runJob hu j) js h

/-- The data event of a phase that ends carries the value of the running job. -/
theorem traceMasked_endPhase {s : State} (h : TraceMasked s.trace) (hjob : JobMasked s.be) :
    TraceMasked (endPhase s).trace := by
  cases hb : s.be.beState <;> simp only [endPhase, hb]
  case sel => exact traceMasked_append.mpr ⟨h, traceMasked_sel _⟩
  case ast => exact traceMasked_append.mpr ⟨h, traceMasked_addr _ _⟩
  case dst => exact traceMasked_append.mpr ⟨h, traceMasked_data (hjob (by simp [hb]))⟩
  all_goals exact h

/-- A job that starts is resolved to its masked value (R127). -/
theorem jobMasked_nextJob (s : State) : JobMasked (nextJob s).be := by
  rcases nextJob_cases s with ⟨-, e⟩ | ⟨j, -, -, e⟩ | ⟨-, -, e⟩ <;> rw [e]
  · exact fun hidle => absurd rfl hidle
  · exact fun _ => masked_and_not j.value j.reg
  · exact fun hidle => absurd rfl hidle

theorem nextPhase_idle (k : JobKind) : nextPhase k .idle = none := by cases k <;> rfl

theorem masked_engineCycle {s : State} (h : TraceMasked s.trace) (hjob : JobMasked s.be) :
    TraceMasked (engineCycle s).trace ∧ JobMasked (engineCycle s).be := by
  have hend := traceMasked_endPhase h hjob
  rcases engineCycle_cases s with ⟨-, -, e⟩ | ⟨p, -, hp, e⟩ | ⟨-, -, e⟩ <;> rw [e]
  · exact ⟨h, hjob⟩
  · refine ⟨hend, fun _ => ?_⟩
    have hbusy : s.be.beState ≠ .idle := by
      intro hidle
      rw [hidle, nextPhase_idle] at hp
      cases hp
    simpa [enterPhase] using hjob hbusy
  · exact ⟨by simpa using hend, jobMasked_nextJob _⟩

theorem kept_masked : KeptByAgents (fun s => TraceMasked s.trace ∧ JobMasked s.be) where
  engine _ h := masked_engineCycle h.1 h.2
  complete s h := by simpa [completeTx, h.2] using traceMasked_runJobs h.1 (s.tx.txJobs.drop s.tx.txIdx)
  host p s h := by simpa [h.2] using traceMasked_runJobs h.1 p.jobs
  frame c f s h := by
    simpa [frameTransaction, h.2] using traceMasked_runJobs (s := toggleLed c (clearDone s)) h.1 (frameJobs c f)
  sched js s h := by
    simpa [schedTransaction, h.2] using traceMasked_runJobs (s := takeTick (clearDone s)) h.1 js

/-- Settles O59: a data event carries the value of a job, and a job is resolved to its masked value when it starts. -/
theorem stepsKeepTheTraceMasked : Obligations.StepsKeepTheTraceMasked :=
  fun _ _ hs h => kept_masked.step hs h (.inr fun i u hu => by simpa [JobMasked] using hu.1)

end Sys2Proof.Machine

namespace Sys2Proof.Machine

/-! ### Host commands: NOP, SELECT, WRITE, WRITE_FAST (R132 to R136) -/

/-- Settles O8: NOP is accepted, has no job and answers the byte 0. -/
theorem nopAnswersOk : Obligations.NopAnswersOk := by
  intro s
  obtain ⟨hdone, hstatus⟩ := hostTransaction_accept [] 0 s
  exact ⟨_, rfl, hdone, hstatus, hostTransaction_frame _ s, busKept_hostTransaction rfl s⟩

/-- Settles O9: the one job of SELECT is a selection, whatever chip is selected before it. -/
theorem selectAlwaysPulses : Obligations.SelectAlwaysPulses := by
  intro s chip c hchip
  have hplan : planSelect chip = .accept [⟨.select, c, 0, 0⟩] (.byte 0) := by
    simp only [planSelect, chipOperand_eq_some.mpr hchip]
  have hjob : ∀ r v, runJob s ⟨.select, c, r, v⟩ = busSelect c s := fun _ _ => rfl
  obtain ⟨hdone, hstatus⟩ := hostTransaction_accept [⟨.select, c, 0, 0⟩] 0 s
  refine ⟨hostTransaction (planSelect chip) s, rfl, ?_⟩
  rw [hplan]
  refine ⟨hdone, hstatus, hostTransaction_frame _ s, ?_⟩
  simp [HostPlan.accept, hjob]

/-- Settles O10: the one job of WRITE is a full write. -/
theorem writeStoresTheMaskedValue : Obligations.WriteStoresTheMaskedValue := by
  intro s chip c r v hchip
  have hplan : planWrite chip r v = .accept [⟨.write, c, r, v⟩] (.byte 0) := by
    simp only [planWrite, chipOperand_eq_some.mpr hchip]
  refine ⟨hostTransaction (planWrite chip r v) s, rfl, ?_⟩
  rw [hplan]
  obtain ⟨hdone, hstatus⟩ := hostTransaction_accept [⟨.write, c, r, v⟩] 0 s
  obtain ⟨htrace, hbus, hshadow, hmem, hlatch⟩ := hostTransaction_write s c r v (.byte 0)
  simp only [@eq_comm _ r] at hshadow
  exact ⟨hdone, hstatus, hostTransaction_frame _ s, htrace, hbus, hshadow, hmem, hlatch⟩

/-- Settles O11: the one job of a legal WRITE_FAST is a fast write, and the chip has latched the register of the tracker. -/
theorem writeFastReachesTheLatchedRegister : Obligations.WriteFastReachesTheLatchedRegister := by
  intro s chip c r v hchip hok hbus
  have hfast : fastOk c r s = true := fastOk_iff.mpr (by simp [hbus])
  have hplan : planWriteFast chip r v s = .accept [⟨.fast, c, r, v⟩] (.byte 0) := by
    simp only [planWriteFast, chipOperand_eq_some.mpr hchip, hfast, if_true]
  have hjob : runJobs [⟨.fast, c, r, v⟩] s = busWriteFast c r v s := rfl
  have hlatched : s.latch.get c = some r := by simpa [hbus] using hok c (by simp [hbus]) (by simp [hbus])
  refine ⟨hostTransaction (planWriteFast chip r v s) s, rfl, ?_⟩
  rw [hplan]
  obtain ⟨hdone, hstatus⟩ := hostTransaction_accept [⟨.fast, c, r, v⟩] 0 s
  refine ⟨hdone, hstatus, hostTransaction_frame _ s, ?_, ?_, ?_, fun c' i => ?_, fun a => ?_⟩
  · simp only [HostPlan.accept, hostTransaction_trace, hjob, busWriteFast_trace]
  · simp only [HostPlan.accept, hostTransaction_bus, hjob, busWriteFast_bus]
  · simp only [HostPlan.accept, hostTransaction_latch, hjob, busWriteFast_latch]
  · simp only [State.shadowAt, HostPlan.accept, hostTransaction_shadow, hjob, busWriteFast_shadow, shadowAfter_get,
      @eq_comm _ r]
  · simp only [HostPlan.accept, hostTransaction_mem, hjob, busWriteFast_mem s r v hlatched]
    split
    · next ha => rw [ha, Memory.read_write_same]
    · next ha => rw [Memory.read_write_ne _ ha]

/-! ### Rejected words (R129, R143, R275) -/

/-- Settles O15: the plan of a reserved opcode is a rejection, whatever the bits below it. -/
theorem reservedOpcodesAnswerBadOp : Obligations.ReservedOpcodesAnswerBadOp := by
  intro s low i hi
  simp only [List.mem_cons, List.not_mem_nil, or_false] at hi
  rcases hi with rfl | rfl | rfl | rfl | rfl | rfl | rfl | rfl | rfl <;>
    exact exec_rejected (e := .badOp) rfl rfl (by decide)

/-- The plan of an operation is a rejection, or an acceptance with at most one job (R129, R144). -/
theorem planOf_cases (i : Instr) (s : State) :
    (∃ e, e ≠ .ok ∧ planOf i s = .reject e) ∨ ∃ js d, js.length ≤ 1 ∧ planOf i s = .accept js d := by
  have hreject : ∀ e, e ≠ .ok → (∃ e', e' ≠ .ok ∧ HostPlan.reject e = .reject e') ∨
      ∃ js d, js.length ≤ 1 ∧ HostPlan.reject e = .accept js d := fun e he => .inl ⟨e, he, rfl⟩
  have haccept : ∀ js d, js.length ≤ 1 → (∃ e', e' ≠ .ok ∧ HostPlan.accept js d = .reject e') ∨
      ∃ js' d', js'.length ≤ 1 ∧ HostPlan.accept js d = .accept js' d' := fun js d h => .inr ⟨js, d, h, rfl⟩
  cases i
  case nop | readStatus => exact haccept _ _ (Nat.zero_le 1)
  case select =>
    simp only [planOf, planSelect]
    split
    · exact hreject _ (by decide)
    · exact haccept _ _ (Nat.le_refl 1)
  case write =>
    simp only [planOf, planWrite]
    split
    · exact hreject _ (by decide)
    · exact haccept _ _ (Nat.le_refl 1)
  case writeFast =>
    simp only [planOf, planWriteFast]
    split
    · exact hreject _ (by decide)
    · split
      · exact haccept _ _ (Nat.le_refl 1)
      · exact hreject _ (by decide)
  case rmw =>
    simp only [planOf, planRmw]
    split
    · exact hreject _ (by decide)
    · split
      · exact hreject _ (by decide)
      · exact haccept _ _ (Nat.le_refl 1)
  case readShadow =>
    simp only [planOf, planReadShadow]
    split
    · exact hreject _ (by decide)
    · split
      · exact hreject _ (by decide)
      · exact haccept _ _ (Nat.zero_le 1)
  all_goals exact hreject .badOp (by decide)

theorem hostPlan_cases (w : HostWord) (s : State) :
    (∃ e, e ≠ .ok ∧ hostPlan w s = .reject e) ∨ ∃ js d, js.length ≤ 1 ∧ hostPlan w s = .accept js d := by
  unfold hostPlan
  split
  · exact planOf_cases _ s
  · exact .inl ⟨.rsvd, by decide, rfl⟩

/-- Settles O18: a word whose verdict is not OK has a plan that is a rejection, and such a plan has no job. -/
theorem rejectedWordsChangeNothingElse : Obligations.RejectedWordsChangeNothingElse := by
  intro s rest hq hhost hverdict
  have hgrant : arbitrate { s with schedule := rest } = .host := hhost
  obtain ⟨t, ht⟩ := transaction_completes (s := { s with schedule := rest }) (by simp [hgrant])
  refine ⟨t, by rw [step, hq]; exact ht, ?_⟩
  rcases transaction_cases ht with ⟨-, rfl⟩ | ⟨c, ha, -⟩ | ⟨ha, -⟩ | ⟨ha, -⟩
  · have hcode := hostPlan_code s.host.hostCmd { s with schedule := rest }
    rcases hostPlan_cases s.host.hostCmd { s with schedule := rest } with ⟨e, he, hp⟩ | ⟨js, d, -, hp⟩
    · simpa [← hcode, hp] using rejectedWith_hostTransaction (p := .reject e) rfl he { s with schedule := rest }
    · rw [hp] at hcode
      exact absurd hcode.symm hverdict
  all_goals simp [hgrant] at ha

end Sys2Proof.Machine

namespace Sys2Proof.Machine

/-! ### Selection pulses and the lengths of transactions (R123, R137, R329) -/

/-- What a job does to the selection: its pulses, and the selection the next jobs find (R124, R137). -/
theorem pulses_cons (s : State) (j : JobReq) (js : List JobReq) :
    pulses s.bus.selCache (j :: js) = pulses s.bus.selCache [j] + pulses (runJob s j).bus.selCache js := by
  rcases runJob_cases s j with ⟨hk, e⟩ | ⟨hk, e⟩ | ⟨hk, e⟩ | ⟨hk, hf, e⟩ | ⟨hk, -, e⟩ <;> rw [e]
  case inr.inr.inr.inl =>
    obtain ⟨hsel, -⟩ := fastOk_iff.mp hf
    simp [pulses, hk, hsel]
  all_goals simp [pulses, hk]

theorem countSel_selEvents (c : Chip) (s : State) :
    (selEvents c s).countP BusEvent.isSel = if s.bus.selCache = some c then 0 else 1 := by
  unfold selEvents
  split <;> simp [BusEvent.isSel]

/-- The pulses of one job in the trace (R137). -/
theorem countSel_runJob (s : State) (j : JobReq) :
    (runJob s j).trace.countP BusEvent.isSel = s.trace.countP BusEvent.isSel + pulses s.bus.selCache [j] := by
  rcases runJob_cases s j with ⟨hk, e⟩ | ⟨hk, e⟩ | ⟨hk, e⟩ | ⟨hk, hf, e⟩ | ⟨hk, -, e⟩ <;> rw [e]
  · simp [pulses, hk, BusEvent.isSel]
  · simp [pulses, hk, BusEvent.isSel, busWrite_trace, countSel_selEvents]
  · simp [pulses, hk, BusEvent.isSel, busWriteFast_trace]
  · obtain ⟨hsel, -⟩ := fastOk_iff.mp hf
    simp [pulses, hk, hsel, BusEvent.isSel, busWriteFast_trace]
  · simp [pulses, hk, BusEvent.isSel, busWrite_trace, countSel_selEvents]

/-- Settles O35: job by job, the pulses in the trace and in the count are the same. -/
theorem selectionPulsesCountChipChanges : Obligations.SelectionPulsesCountChipChanges := by
  intro s js
  induction js generalizing s with
  | nil => rfl
  | cons j js ih => rw [runJobs_cons, ih, countSel_runJob, pulses_cons s j js, Nat.add_assoc]

/-- A full write is as long as its selection, if it makes one, and its two phases (R123). -/
theorem jobLength_write {j : JobReq} (hj : j.kind = .write) (s : State) :
    jobLength j s = pulses s.bus.selCache [j] * s.cfg.nSel + writeLength s.cfg := by
  have hk : (resolve j s).kind = .write := by simp only [resolve, hj]
  simp only [jobLength, hk, pulses, hj]
  split <;> simp

/-- No job is longer than its selection, if it makes one, and a full write without one (R123). -/
theorem jobLength_le (j : JobReq) (s : State) :
    jobLength j s ≤ pulses s.bus.selCache [j] * s.cfg.nSel + writeLength s.cfg := by
  have hfast : s.cfg.nSu + s.cfg.nDpw + s.cfg.nHd ≤ writeLength s.cfg := by
    unfold writeLength
    generalize s.cfg.nSu = su, s.cfg.nApw = apw, s.cfg.nDpw = dpw, s.cfg.nHd = hd
    omega
  cases hj : j.kind
  case write => exact (jobLength_write hj s).le
  case select =>
    have hk : (resolve j s).kind = .select := by simp only [resolve, hj]
    simp [jobLength, hk, pulses, hj]
  case fast =>
    have hk : (resolve j s).kind = .fast := by simp only [resolve, hj]
    simpa [jobLength, hk, pulses, hj] using hfast
  case amp =>
    by_cases hf : fastOk j.chip j.reg s = true
    · obtain ⟨hsel, -⟩ := fastOk_iff.mp hf
      have hk : (resolve j s).kind = .fast := by simp only [resolve, hj, hf, if_true]
      simpa [jobLength, hk, pulses, hj, hsel] using hfast
    · have hk : (resolve j s).kind = .write := by simp only [resolve, hj, hf, Bool.false_eq_true, if_false]
      simp only [jobLength, hk, pulses, hj]
      split <;> simp

/-- Full writes one after another take exactly their selections and their phases (R123, R127). -/
theorem jobsLength_writes {js : List JobReq} (hjs : ∀ j ∈ js, j.kind = .write) (s : State) :
    jobsLength js s = pulses s.bus.selCache js * s.cfg.nSel + js.length * writeLength s.cfg := by
  induction js generalizing s with
  | nil => simp [jobsLength, pulses]
  | cons j js ih =>
    obtain ⟨hj, hrest⟩ := List.forall_mem_cons.mp hjs
    rw [jobsLength, jobLength_write hj, ih hrest, pulses_cons s j js, runJob_cfg, List.length_cons]
    ring

theorem jobsLength_le (js : List JobReq) (s : State) :
    jobsLength js s ≤ pulses s.bus.selCache js * s.cfg.nSel + js.length * writeLength s.cfg := by
  induction js generalizing s with
  | nil => simp [jobsLength, pulses]
  | cons j js ih =>
    have hj := jobLength_le j s
    have hjs := ih (runJob s j)
    rw [runJob_cfg] at hjs
    rw [jobsLength, pulses_cons s j js, List.length_cons, add_mul, add_mul, one_mul]
    omega

/-- A transaction with at most `p` selections and `n` jobs (R329). -/
theorem transactionLength_le {js : List JobReq} {s : State} {p n : Nat} (hp : pulses s.bus.selCache js ≤ p)
    (hn : js.length ≤ n) : transactionLength js s ≤ 2 + p * s.cfg.nSel + n * writeLength s.cfg := by
  have hlen := jobsLength_le js s
  have hsel := Nat.mul_le_mul_right s.cfg.nSel hp
  have hjobs := Nat.mul_le_mul_right (writeLength s.cfg) hn
  unfold transactionLength
  omega

theorem pulses_le_length (cache : Option Chip) (js : List JobReq) : pulses cache js ≤ js.length := by
  induction js generalizing cache with
  | nil => exact Nat.le_refl 0
  | cons j js ih =>
    have hsame := ih cache
    have hnext := ih (some j.chip)
    rw [List.length_cons, pulses]
    split
    · omega
    · omega
    · split <;> omega
    · split <;> omega

/-- Amplitude jobs in rising order of chips, from a chip not above theirs: one pulse at most for each chip above it. -/
theorem pulses_le_chips_above {js : List JobReq} (hk : ∀ j ∈ js, j.kind = .amp) (hsorted : js.Pairwise (·.chip ≤ ·.chip))
    {c : Chip} (hc : ∀ j ∈ js, c ≤ j.chip) : pulses (some c) js ≤ 2 - c.val := by
  induction js generalizing c with
  | nil => exact Nat.zero_le _
  | cons j js ih =>
    obtain ⟨hj, hjs⟩ := List.forall_mem_cons.mp hk
    obtain ⟨hfirst, hrest⟩ := List.pairwise_cons.mp hsorted
    have hle : c.val ≤ j.chip.val := hc j List.mem_cons_self
    have hlt := j.chip.isLt
    have hafter := ih hjs hrest hfirst
    simp only [pulses, hj, Option.some.injEq]
    split
    · omega
    · next hne =>
      have := Fin.val_ne_of_ne hne
      omega

theorem pulses_le_three {js : List JobReq} (hk : ∀ j ∈ js, j.kind = .amp) (hsorted : js.Pairwise (·.chip ≤ ·.chip))
    (cache : Option Chip) : pulses cache js ≤ 3 := by
  cases js with
  | nil => exact Nat.zero_le _
  | cons j js =>
    obtain ⟨hj, hjs⟩ := List.forall_mem_cons.mp hk
    obtain ⟨hfirst, hrest⟩ := List.pairwise_cons.mp hsorted
    have hafter := pulses_le_chips_above hjs hrest hfirst
    simp only [pulses, hj]
    split <;> omega

theorem kind_of_mem_ampJobs {s : State} {ks : List (Fin 9)} {j : JobReq} (h : j ∈ ampJobs s ks) : j.kind = .amp := by
  obtain ⟨cv, -, rfl⟩ := List.mem_map.mp h
  rfl

theorem length_ampJobs_le (s : State) (ks : List (Fin 9)) : (ampJobs s ks).length ≤ ks.length := by
  simpa [ampJobs] using List.length_filter_le (fun cv : Chip × Voice => armed s cv.1 cv.2) (ks.map comboOf)

/-- DIRECT writes chip after chip (R224). -/
theorem directJobs_sorted (s : State) : (directJobs s).Pairwise (·.chip ≤ ·.chip) := by
  have hcombos : (allCombos.map comboOf).Pairwise (·.1 ≤ ·.1) := by decide
  exact List.pairwise_map.mpr (hcombos.filter _)

theorem kind_of_mem_frameJobs {c : Chip} {f : Frame} {j : JobReq} (h : j ∈ frameJobs c f) : j.kind = .write := by
  obtain ⟨r, -, rfl⟩ := List.mem_map.mp h
  rfl

/-- A FRAME writes one chip (R179). -/
theorem pulses_frameJobs (cache : Option Chip) (c : Chip) (f : Frame) :
    pulses cache (frameJobs c f) = if cache = some c then 0 else 1 := by
  simp [frameJobs, frameRegs, pulses]

theorem length_hostPlan_jobs (w : HostWord) (s : State) : (hostPlan w s).jobs.length ≤ 1 := by
  rcases hostPlan_cases w s with ⟨e, -, h⟩ | ⟨js, d, hlen, h⟩ <;> rw [h]
  · exact Nat.zero_le 1
  · exact hlen

/-- Settles O36: every transaction's length is bounded by its selections and its jobs, and a FRAME's is exactly theirs. -/
theorem transactionsAreBounded : Obligations.TransactionsAreBounded := by
  intro s
  have hone : ∀ js : List JobReq, js.length ≤ 1 → transactionLength js s ≤ 2 + s.cfg.nSel + writeLength s.cfg := by
    intro js hjs
    simpa using transactionLength_le (s := s) ((pulses_le_length _ js).trans hjs) hjs
  refine ⟨fun c f => ?_, ?_, hone _ (length_ampJobs_le s _), fun w => hone _ (length_hostPlan_jobs w s)⟩
  · have hlen : (frameJobs c f).length = 14 := by simp [frameJobs, frameRegs]
    rw [transactionLength, jobsLength_writes (fun j hj => kind_of_mem_frameJobs hj), pulses_frameJobs, hlen]
    split <;> omega
  · exact transactionLength_le (pulses_le_three (fun _ hj => kind_of_mem_ampJobs hj) (directJobs_sorted s) _)
      (length_ampJobs_le s _)

end Sys2Proof.Machine

namespace Sys2Proof.Machine

/-! ### What the jobs of a transaction store (R62, R121, R126) -/

/-- The image address of a job's register (R60). -/
def JobReq.addr (j : JobReq) : Nat := chipRegAddr j.chip j.reg

/-- The byte that jobs store last at an address of the image, if one of them stores there. -/
def storedAt (a : Nat) : List JobReq → Option Byte
  | [] => none
  | j :: js => (storedAt a js).or (if a = j.addr then some (j.value &&& maskOf j.reg) else none)

theorem storedAt_of_not_mem {a : Nat} {js : List JobReq} (h : ∀ j ∈ js, a ≠ j.addr) : storedAt a js = none := by
  induction js with
  | nil => rfl
  | cons j js ih =>
    obtain ⟨hj, hjs⟩ := List.forall_mem_cons.mp h
    simp [storedAt, hj, ih hjs]

/-- Jobs that write different registers each leave their byte. -/
theorem storedAt_of_mem {js : List JobReq} (h : js.Pairwise (·.addr ≠ ·.addr)) {j : JobReq} (hj : j ∈ js) :
    storedAt j.addr js = some (j.value &&& maskOf j.reg) := by
  induction js with
  | nil => cases hj
  | cons k ks ih =>
    obtain ⟨hk, hks⟩ := List.pairwise_cons.mp h
    rcases List.mem_cons.mp hj with rfl | hj
    · simp [storedAt, storedAt_of_not_mem hk]
    · simp [storedAt, ih hks hj]

/-- A write that reaches its register: a full one, or an amplitude write under a tracker that is right about the chip (R133). -/
def Reaches (s : State) (j : JobReq) : Prop := j.kind = .write ∨ (j.kind = .amp ∧ LatchOk s)

theorem latchOk_busWrite (s : State) (c : Chip) (r : RegAddr) (v : Byte) : LatchOk (busWrite c r v s) := by
  intro c' hsel _
  obtain rfl : c = c' := by simpa using hsel
  simp

theorem latchOk_busWriteFast {s : State} (h : LatchOk s) (c : Chip) (r : RegAddr) (v : Byte) :
    LatchOk (busWriteFast c r v s) := by
  simpa [LatchOk] using h

/-- Such a write stores its masked value in its register and in the shadow, and leaves the tracker right. -/
theorem Reaches.runJob {s : State} {j : JobReq} (h : Reaches s j) :
    (runJob s j).mem = s.mem.write j.addr (j.value &&& maskOf j.reg) ∧
    (runJob s j).shadow = shadowAfter j.chip j.reg (j.value &&& maskOf j.reg) s.shadow ∧ LatchOk (runJob s j) := by
  have hfull := And.intro (busWrite_mem s j.chip j.reg j.value)
    (And.intro (busWrite_shadow s j.chip j.reg j.value) (latchOk_busWrite s j.chip j.reg j.value))
  rcases runJob_cases s j with ⟨hk, e⟩ | ⟨-, e⟩ | ⟨hk, e⟩ | ⟨hk, hf, e⟩ | ⟨-, -, e⟩ <;> rw [e]
  · simp [Reaches, hk] at h
  · exact hfull
  · simp [Reaches, hk] at h
  · have hok : LatchOk s := by simpa [Reaches, hk] using h
    obtain ⟨hsel, hvalid, hreg⟩ := fastOk_iff.mp hf
    have hlatched := hok _ hsel hvalid
    rw [hreg] at hlatched
    exact ⟨busWriteFast_mem s _ _ hlatched, busWriteFast_shadow s _ _ _, latchOk_busWriteFast hok _ _ _⟩
  · exact hfull

/-- What a list of such writes leaves in the chips and in the shadow. -/
theorem runJobs_stores {js : List JobReq} {s : State} (h : ∀ j ∈ js, Reaches s j) :
    (∀ a, (runJobs js s).mem.read a = (storedAt a js).or (s.mem.read a)) ∧
    (∀ c i, (runJobs js s).shadowAt c i = (storedAt (chipRegAddr c (shReg i)) js).getD (s.shadowAt c i)) := by
  induction js generalizing s with
  | nil => exact ⟨fun _ => rfl, fun _ _ => rfl⟩
  | cons j js ih =>
    obtain ⟨hj, hjs⟩ := List.forall_mem_cons.mp h
    obtain ⟨hmem, hshadow, hlatch⟩ := hj.runJob
    obtain ⟨hread, hbyte⟩ := ih (s := Machine.runJob s j) fun k hk => (hjs k hk).imp id fun hamp => ⟨hamp.1, hlatch⟩
    refine ⟨fun a => ?_, fun c i => ?_⟩
    · rw [runJobs_cons, hread, storedAt, Option.or_assoc, hmem]
      split
      · next ha => rw [ha, Memory.read_write_same, Option.some_or]
      · next ha => rw [Memory.read_write_ne _ ha, Option.none_or]
    · have hat : chipRegAddr c (shReg i) = j.addr ↔ c = j.chip ∧ j.reg = shReg i :=
        ⟨fun he => ⟨(chipRegAddr_inj he).1, (chipRegAddr_inj he).2.symm⟩, fun ⟨hc, hr⟩ => by rw [hc, ← hr]; rfl⟩
      rw [runJobs_cons, hbyte, storedAt, State.shadowAt, hshadow, shadowAfter_get]
      simp only [← hat]
      cases storedAt (chipRegAddr c (shReg i)) js
      · split <;> rfl
      · rfl

theorem latchOk_runJobs {js : List JobReq} {s : State} (hs : LatchOk s) (h : ∀ j ∈ js, Reaches s j) :
    LatchOk (runJobs js s) := by
  induction js generalizing s with
  | nil => exact hs
  | cons j js ih =>
    obtain ⟨hj, hjs⟩ := List.forall_mem_cons.mp h
    obtain ⟨-, -, hlatch⟩ := hj.runJob
    exact ih hlatch fun k hk => (hjs k hk).imp id fun hamp => ⟨hamp.1, hlatch⟩

/-- A job latches an address in its own chip at most (R62). -/
theorem runJob_latch_ne (s : State) {j : JobReq} {c : Chip} (h : j.chip ≠ c) :
    (runJob s j).latch.get c = s.latch.get c := by
  rcases runJob_cases s j with ⟨-, e⟩ | ⟨-, e⟩ | ⟨-, e⟩ | ⟨-, -, e⟩ | ⟨-, -, e⟩ <;> rw [e] <;>
    simp [Triple.get_set_ne _ h.symm]

theorem runJobs_latch_ne {js : List JobReq} {c : Chip} (h : ∀ j ∈ js, j.chip ≠ c) (s : State) :
    (runJobs js s).latch.get c = s.latch.get c := by
  induction js generalizing s with
  | nil => rfl
  | cons j js ih =>
    obtain ⟨hj, hjs⟩ := List.forall_mem_cons.mp h
    rw [runJobs_cons, ih hjs, runJob_latch_ne s hj]

/-! ### What a FRAME stores (R126, R179, R190) -/

theorem frameTransaction_mem (c : Chip) (f : Frame) (s : State) :
    (frameTransaction c f s).mem = (runJobs (frameJobs c f) (toggleLed c (clearDone s))).mem := by
  simp [frameTransaction]

theorem frameTransaction_shadow (c : Chip) (f : Frame) (s : State) :
    (frameTransaction c f s).shadow = (runJobs (frameJobs c f) (toggleLed c (clearDone s))).shadow := by
  simp [frameTransaction]

theorem frameTransaction_latch (c : Chip) (f : Frame) (s : State) :
    (frameTransaction c f s).latch = (runJobs (frameJobs c f) (toggleLed c (clearDone s))).latch := by
  simp [frameTransaction]

/-- The job of register r of a FRAME (R179). -/
def frameJob (c : Chip) (f : Frame) (r : Fin 14) : JobReq := ⟨.write, c, BitVec.ofNat 5 r.val, frameReg f r⟩

theorem mem_frameJobs {c : Chip} {f : Frame} {j : JobReq} : j ∈ frameJobs c f ↔ ∃ r, frameJob c f r = j := by
  have hall : ∀ r, r ∈ frameRegs := by decide
  simp [frameJobs, frameJob, hall]

theorem frameJobs_distinct (c : Chip) (f : Frame) : (frameJobs c f).Pairwise (·.addr ≠ ·.addr) := by
  have hregs : frameRegs.Pairwise (fun r r' => BitVec.ofNat 5 r.val ≠ BitVec.ofNat 5 r'.val) := by decide
  exact List.pairwise_map.mpr (hregs.imp fun hne he => hne (chipRegAddr_inj he).2)

theorem maskOf_frameReg (r : Fin 14) : maskOf (BitVec.ofNat 5 r.val) = maskTable[r] := by revert r; decide

theorem storedAt_frameJobs (c : Chip) (f : Frame) (r : Fin 14) :
    storedAt (chipRegAddr c (BitVec.ofNat 5 r.val)) (frameJobs c f) = some (f[r.val + 1] &&& maskTable[r]) := by
  have hjob := storedAt_of_mem (frameJobs_distinct c f) (mem_frameJobs.mpr ⟨r, rfl⟩)
  rw [← maskOf_frameReg]
  exact hjob

theorem storedAt_frameJobs_other {a : Nat} {c : Chip} {f : Frame}
    (h : ∀ r : Fin 14, a ≠ chipRegAddr c (BitVec.ofNat 5 r.val)) : storedAt a (frameJobs c f) = none := by
  refine storedAt_of_not_mem fun j hj => ?_
  obtain ⟨r, rfl⟩ := mem_frameJobs.mp hj
  exact h r

/-- A FRAME reaches no register of another chip, and none above 13. -/
theorem storedAt_frameJobs_none {c c' : Chip} {r : RegAddr} (f : Frame) (h : c' ≠ c ∨ 14 ≤ r.toNat) :
    storedAt (chipRegAddr c' r) (frameJobs c f) = none := by
  refine storedAt_frameJobs_other fun k he => ?_
  obtain ⟨hc, hr⟩ := chipRegAddr_inj he
  rcases h with h | h
  · exact h hc
  · rw [hr, BitVec.toNat_ofNat] at h
    omega

theorem Shadow.ext_get {a b : Shadow} (h : ∀ i, a.get i = b.get i) : a = b := by
  cases a; cases b
  exact Shadow.mk.injEq .. |>.mpr ⟨h .mix, h .lva, h .lvb, h .lvc, h .pa, h .pb⟩

/-- Settles O20: the jobs of a FRAME are full writes of registers 0 to 13 of its chip, each of one register. -/
theorem frameStoresOnlyItsChipsRegisters : Obligations.FrameStoresOnlyItsChipsRegisters := by
  intro s f c hc
  have hexec : exec (.frame f) s = .next (frameTransaction c f s) := by
    simp only [exec, execFrame, frameChip_eq_some.mpr hc]
  obtain ⟨hread, hbyte⟩ := runJobs_stores (js := frameJobs c f) (s := toggleLed c (clearDone s))
    fun j hj => .inl (kind_of_mem_frameJobs hj)
  have hshadow : ∀ c' i, ((frameTransaction c f s).shadow.get c').get i =
      (storedAt (chipRegAddr c' (shReg i)) (frameJobs c f)).getD (s.shadowAt c' i) := by
    rw [frameTransaction_shadow]
    exact hbyte
  have hwritten : ∀ (r : Fin 14) i, shReg i = BitVec.ofNat 5 r.val →
      ((frameTransaction c f s).shadow.get c).get i = f[r.val + 1] &&& maskTable[r] := by
    intro r i hi
    rw [hshadow, hi, storedAt_frameJobs, Option.getD_some]
  refine ⟨_, hexec, fun r => ?_, fun a ha => ?_, ?_, fun c' hne => ⟨?_, ?_⟩, ?_⟩
  · rw [frameTransaction_mem, hread, storedAt_frameJobs, Option.some_or]
  · rw [frameTransaction_mem, hread, storedAt_frameJobs_other ha, Option.none_or]
    rfl
  · refine Shadow.ext_get fun i => ?_
    cases i
    case mix => exact (hwritten 7 .mix rfl).trans BitVec.and_allOnes
    case lva => exact hwritten 8 .lva rfl
    case lvb => exact hwritten 9 .lvb rfl
    case lvc => exact hwritten 10 .lvc rfl
    case pa | pb =>
      rw [hshadow, storedAt_frameJobs_none f (.inr (by decide))]
      rfl
  · refine Shadow.ext_get fun i => ?_
    rw [hshadow, storedAt_frameJobs_none f (.inl hne)]
    rfl
  · rw [frameTransaction_latch, runJobs_latch_ne fun j hj => ?_]
    · rfl
    · obtain ⟨r, rfl⟩ := mem_frameJobs.mp hj
      exact hne.symm
  · have hlast : frameJobs c f = (frameRegs.dropLast.map (frameJob c f)) ++ [frameJob c f 13] := rfl
    rw [frameTransaction_latch, hlast, runJobs_append]
    exact (congrArg (·.get c) (busWrite_latch _ c 13 _)).trans (Triple.get_set_same _ c _)

/-! ### What an activation stores (R126, R224, R225, R230) -/

theorem comboOf_injective : Function.Injective comboOf := by decide

/-- The amplitude writes of an activation are those of its jobs (R224, R230). -/
theorem mem_ampWrites {s : State} {ks : List (Fin 9)} {c : Chip} {r : RegAddr} {vm : Byte} :
    (c, r, vm) ∈ ampWrites s ks ↔ ∃ j ∈ ampJobs s ks, j.chip = c ∧ j.reg = r ∧ j.value = vm := by
  simp only [ampWrites, ampJobs, ampJob, List.mem_map, Prod.mk.injEq]
  constructor
  · rintro ⟨cv, hcv, hc, hr, hvm⟩
    exact ⟨_, ⟨cv, hcv, rfl⟩, hc, hr, hvm⟩
  · rintro ⟨-, ⟨cv, hcv, rfl⟩, hc, hr, hvm⟩
    exact ⟨cv, hcv, hc, hr, hvm⟩

theorem volumeReg_injective : Function.Injective volumeReg := by decide

theorem ampJobs_distinct (s : State) {ks : List (Fin 9)} (h : ks.Nodup) :
    (ampJobs s ks).Pairwise (·.addr ≠ ·.addr) := by
  have hcombos : (ks.map comboOf).Nodup := h.map comboOf_injective
  refine List.pairwise_map.mpr ((hcombos.filter _).imp fun {a b} hne he => hne ?_)
  obtain ⟨hc, hv⟩ := chipRegAddr_inj he
  exact Prod.ext hc (volumeReg_injective hv)

/-- An amplitude is stored as it is (R230). -/
theorem value_of_mem_ampJobs {s : State} {ks : List (Fin 9)} {j : JobReq} (h : j ∈ ampJobs s ks) :
    j.value &&& maskOf j.reg = j.value := by
  obtain ⟨cv, -, rfl⟩ := List.mem_map.mp h
  exact amplitude_mask _ _

/-- What an activation with the combinations ks leaves in the chips. -/
theorem schedTransaction_stores {s : State} (hs : LatchOk s) {ks : List (Fin 9)} (hks : ks.Nodup) :
    let t := schedTransaction (ampJobs s ks) s
    LatchOk t ∧
    (∀ c r vm, (c, r, vm) ∈ ampWrites s ks → t.mem.read (chipRegAddr c r) = some vm) ∧
    (∀ a, (∀ c r vm, (c, r, vm) ∈ ampWrites s ks → a ≠ chipRegAddr c r) → t.mem.read a = s.mem.read a) ∧
    (∀ c, (∀ r vm, (c, r, vm) ∉ ampWrites s ks) → t.latch.get c = s.latch.get c) := by
  intro t
  have hreach : ∀ j ∈ ampJobs s ks, Reaches (takeTick (clearDone s)) j := fun j hj =>
    .inr ⟨kind_of_mem_ampJobs hj, hs⟩
  have hmem : t.mem = (runJobs (ampJobs s ks) (takeTick (clearDone s))).mem := by simp [t, schedTransaction]
  have hlatch : t.latch = (runJobs (ampJobs s ks) (takeTick (clearDone s))).latch := by simp [t, schedTransaction]
  obtain ⟨hread, -⟩ := runJobs_stores hreach
  refine ⟨latchOk_runJobs (s := takeTick (clearDone s)) hs hreach, fun c r vm hw => ?_, fun a ha => ?_, fun c hc => ?_⟩
  · obtain ⟨j, hj, rfl, rfl, rfl⟩ := mem_ampWrites.mp hw
    have hstored : storedAt (chipRegAddr j.chip j.reg) (ampJobs s ks) = some (j.value &&& maskOf j.reg) :=
      storedAt_of_mem (ampJobs_distinct s hks) hj
    rw [hmem, hread, hstored, value_of_mem_ampJobs hj, Option.some_or]
  · have hnone : storedAt a (ampJobs s ks) = none :=
      storedAt_of_not_mem fun j hj => ha _ _ _ (mem_ampWrites.mpr ⟨j, hj, rfl, rfl, rfl⟩)
    rw [hmem, hread, hnone, Option.none_or]
    rfl
  · rw [hlatch, runJobs_latch_ne fun j hj he => hc j.reg j.value (mem_ampWrites.mpr ⟨j, hj, he, rfl, rfl⟩)]
    rfl

/-- Settles O26: either form is an activation with different combinations. -/
theorem ticksStoreOnlyAmplitudes : Obligations.TicksStoreOnlyAmplitudes := by
  intro s ks i hs hi
  rcases hi with ⟨rfl, rfl⟩ | ⟨rfl, hks⟩
  · exact ⟨_, rfl, schedTransaction_stores hs (List.nodup_finRange 9)⟩
  · obtain ⟨k, rfl, hk⟩ : ∃ k, ks = [k] ∧ k.val = s.rrSlot.toNat := by simpa using hks
    have hslot : k = ⟨s.rrSlot.toNat, by omega⟩ := Fin.ext hk
    rw [hslot]
    exact ⟨_, rfl, schedTransaction_stores hs (List.nodup_singleton _)⟩

end Sys2Proof.Machine

namespace Sys2Proof.Machine

/-! ### The events of level T (R128, R172 to R175, R283, R291) -/

/-- A byte before the 17th goes into the buffer, and nowhere else (R172). -/
theorem receiveByte_of_room {s : State} (b : Byte) (h : s.rx.rxCount.val < 16) :
    receiveByte b s = { s with rx := rxWithByte s.rx b h } := by
  rw [receiveByte, dif_pos h]
  rfl

/-- The 17th byte completes the frame (R172). -/
theorem receiveByte_of_full {s : State} (b : Byte) (h : s.rx.rxCount.val = 16) :
    receiveByte b s = completeFrame (s.rx.rxBuf.push b) { s with rx := ⟨s.rx.rxBuf, 0, 0⟩ } := by
  rw [receiveByte, dif_neg (by omega)]

/-- A complete frame names no chip, finds the hold register full, or is held (R174, R175). -/
theorem completeFrame_cases (f : Frame) (s : State) :
    (3 ≤ f[0].toNat ∧ completeFrame f s = raiseDiscard .rxBadChip s) ∨
    (¬ 3 ≤ f[0].toNat ∧ s.hold.holdFull = true ∧ completeFrame f s = raiseDiscard .rxOverrun s) ∨
    (¬ 3 ≤ f[0].toNat ∧ s.hold.holdFull = false ∧ completeFrame f s = { s with hold := ⟨f, true⟩ }) := by
  rw [← frameChip_eq_none]
  cases hc : frameChip f
  case none => simp [completeFrame, hc]
  case some c => cases hf : s.hold.holdFull <;> simp [completeFrame, holdFrame, hc, hf]

theorem event_byte (s : State) (b : Byte) :
    let frame : Frame := s.rx.rxBuf.push b
    ∃ t, event (.byte b) s = .next t ∧
      { t with rx := s.rx, hold := s.hold, status := s.status, host := { t.host with hDoneO := s.host.hDoneO } } = s ∧
      (∀ h : s.rx.rxCount.val < 16, t.rx = rxWithByte s.rx b h ∧ t.hold = s.hold ∧ t.status = s.status) ∧
      (s.rx.rxCount.val = 16 → t.rx = ⟨s.rx.rxBuf, 0, 0⟩ ∧
        (t.hold, t.status) =
          if 3 ≤ frame[0].toNat then (s.hold, s.status ||| 0x02)
          else if s.hold.holdFull then (s.hold, s.status ||| 0x04)
          else (⟨frame, true⟩, s.status)) := by
  intro frame
  refine ⟨receiveByte b (clearDone s), rfl, ?_⟩
  by_cases hroom : s.rx.rxCount.val < 16
  · rw [receiveByte_of_room (s := clearDone s) b hroom]
    exact ⟨rfl, fun _ => ⟨rfl, rfl, rfl⟩, fun hfull => absurd hroom (by omega)⟩
  · have hfull : s.rx.rxCount.val = 16 := by omega
    rw [receiveByte_of_full (s := clearDone s) b hfull, clearDone_rx]
    rcases completeFrame_cases frame { clearDone s with rx := ⟨s.rx.rxBuf, 0, 0⟩ } with
      ⟨hbad, e⟩ | ⟨hgood, hheld, e⟩ | ⟨hgood, hheld, e⟩ <;> rw [e]
    · exact ⟨rfl, fun h => absurd h hroom, fun _ => ⟨rfl, by rw [if_pos hbad]; rfl⟩⟩
    · have hkept : s.hold.holdFull = true := hheld
      exact ⟨rfl, fun h => absurd h hroom, fun _ => ⟨rfl, by rw [if_neg hgood, if_pos hkept]; rfl⟩⟩
    · have hfree : ¬ s.hold.holdFull = true := ne_true_of_eq_false hheld
      exact ⟨rfl, fun h => absurd h hroom, fun _ => ⟨rfl, by rw [if_neg hgood, if_neg hfree]; rfl⟩⟩

theorem event_timeout {s : State} (h : 1 ≤ s.rx.rxCount.val) :
    ∃ t, event .timeout s = .next t ∧ t.rx = ⟨s.rx.rxBuf, 0, 0⟩ ∧ t.status = s.status ||| 0x01 ∧
      { t with rx := s.rx, status := s.status, host := { t.host with hDoneO := s.host.hDoneO } } = s := by
  have hpartial : s.rx.rxCount ≠ 0 := Fin.ne_of_val_ne (by simp; omega)
  exact ⟨dropPartial (clearDone s), by simp only [event, hpartial, if_false], rfl, rfl, rfl⟩

theorem event_tick (s : State) :
    ∃ t, event .tick s = .next t ∧ t.tick = ⟨s.tick.tickDiv, true⟩ ∧
      t.status = s.status ||| (if s.tick.tickPending then 0x08 else 0) ∧
      { t with tick := s.tick, status := s.status, host := { t.host with hDoneO := s.host.hDoneO } } = s := by
  refine ⟨raiseTick (clearDone s), rfl, ?_⟩
  by_cases hp : s.tick.tickPending = true
  · have hlost : raiseTick (clearDone s) = setFlag .tickOverrun (clearDone s) := if_pos hp
    rw [hlost, if_pos hp]
    exact ⟨by rw [← hp]; rfl, rfl, rfl⟩
  · have hpending : raiseTick (clearDone s) = { clearDone s with tick := ⟨s.tick.tickDiv, true⟩ } := if_neg hp
    rw [hpending, if_neg hp]
    exact ⟨rfl, BitVec.or_zero.symm, rfl⟩

/-- Settles O51: the receiver's, the tick generator's and the host port's part of a cycle, each as an event. -/
theorem levelTEventsArrive : Obligations.LevelTEventsArrive := by
  intro s
  refine ⟨event_byte s, event_timeout, fun h => ?_, event_tick s, fun w h => ?_, fun w h => ?_⟩
  · have hempty : s.rx.rxCount = 0 := Fin.ext h
    simp only [event, hempty, if_true]
  · refine ⟨takeOffer w (clearDone s), by simp [event, h], rfl, rfl, ?_⟩
    rw [← h]
    rfl
  · simp only [event, h, if_true]

end Sys2Proof.Machine

namespace Sys2Proof.Machine

/-! ### STATUS influences nothing (R142, R277) -/

/-- The machine with another STATUS and another byte in its answer. -/
def withStatus (x : BitVec 8) (d : Byte) (s : State) : State :=
  { s with status := x, host := { s.host with hRdataO := d } }

section
variable (x : BitVec 8) (d : Byte) (s : State)

@[simp] theorem withStatus_be : (withStatus x d s).be = s.be := rfl
@[simp] theorem withStatus_hold : (withStatus x d s).hold = s.hold := rfl
@[simp] theorem withStatus_tx : (withStatus x d s).tx = s.tx := rfl
@[simp] theorem withStatus_latch : (withStatus x d s).latch = s.latch := rfl
@[simp] theorem withStatus_hostCmd : (withStatus x d s).host.hostCmd = s.host.hostCmd := rfl
@[simp] theorem arbitrate_withStatus : arbitrate (withStatus x d s) = arbitrate s := rfl
@[simp] theorem nextIdx_withStatus : nextIdx (withStatus x d s) = nextIdx s := rfl

end

/-- An agent that reads neither: it does the same whatever they hold, but that it may set flags in STATUS. -/
def StatusBlind (f : State → State) : Prop := ∀ x d s, ∃ y, f (withStatus x d s) = withStatus y d (f s)

/-- Such an agent that leaves STATUS alone. -/
theorem StatusBlind.of_commutes {f : State → State} (h : ∀ x d s, f (withStatus x d s) = withStatus x d (f s)) :
    StatusBlind f := fun x d s => ⟨x, h x d s⟩

theorem StatusBlind.comp {f g : State → State} (hg : StatusBlind g) (hf : StatusBlind f) :
    StatusBlind (fun s => g (f s)) := by
  intro x d s
  obtain ⟨y, hy⟩ := hf x d s
  obtain ⟨z, hz⟩ := hg y d (f s)
  exact ⟨z, (congrArg g hy).trans hz⟩

theorem StatusBlind.ite {p : State → Prop} [DecidablePred p] {f g : State → State} (hf : StatusBlind f)
    (hg : StatusBlind g) (hp : ∀ x d s, p (withStatus x d s) ↔ p s) :
    StatusBlind (fun s => if p s then f s else g s) := by
  intro x d s
  by_cases h : p s
  · simpa only [hp, h, if_true] using hf x d s
  · simpa only [hp, h, if_false] using hg x d s

/-! #### The bus engine -/

theorem statusBlind_endPhase : StatusBlind endPhase := .of_commutes fun x d s => by
  simp only [endPhase, withStatus_be]
  split <;> rfl

theorem statusBlind_nextJob : StatusBlind nextJob := by
  refine .ite (.of_commutes fun _ _ _ => rfl) (fun x d s => ?_) fun _ _ _ => Iff.rfl
  simp only [withStatus_tx, nextIdx_withStatus]
  split <;> exact ⟨x, rfl⟩

theorem statusBlind_engineCycle : StatusBlind engineCycle := by
  refine .ite (.of_commutes fun _ _ _ => rfl) (fun x d s => ?_) fun _ _ _ => Iff.rfl
  simp only [withStatus_be]
  split
  · exact StatusBlind.comp (g := enterPhase _) (.of_commutes fun _ _ _ => rfl) statusBlind_endPhase x d s
  · exact statusBlind_nextJob.comp statusBlind_endPhase x d s

/-! #### The jobs of a transaction -/

theorem statusBlind_chipStores (c : Chip) (v : Byte) : StatusBlind (chipStores c v) := .of_commutes fun x d s => by
  simp only [chipStores, withStatus_latch]
  split <;> rfl

theorem statusBlind_dataPhase (c : Chip) (r : RegAddr) (v : Byte) : StatusBlind (dataPhase c r v) :=
  .comp (g := holdData v) (.of_commutes fun _ _ _ => rfl)
    ((statusBlind_chipStores c v).comp (f := dataEnd c r v) (.of_commutes fun _ _ _ => rfl))

theorem statusBlind_busWrite (c : Chip) (r : RegAddr) (v : Byte) : StatusBlind (busWrite c r v) := by
  have hsel : StatusBlind (selectIfNeeded c) :=
    .ite (.of_commutes fun _ _ _ => rfl) (.of_commutes fun _ _ _ => rfl) fun _ _ _ => Iff.rfl
  have haddr : StatusBlind (addressPhase c r) := .of_commutes fun _ _ _ => rfl
  exact (statusBlind_dataPhase c r _).comp (haddr.comp hsel)

theorem statusBlind_runJob (j : JobReq) : StatusBlind (fun s => runJob s j) := by
  intro x d s
  have hkind : resolve j (withStatus x d s) = resolve j s := rfl
  simp only [runJob, hkind]
  split
  · exact ⟨x, rfl⟩
  · exact statusBlind_busWrite _ _ _ x d s
  · exact statusBlind_dataPhase _ _ _ x d s

theorem statusBlind_runJobs (js : List JobReq) : StatusBlind (runJobs js) := by
  induction js with
  | nil => exact .of_commutes fun _ _ _ => rfl
  | cons j js ih => exact ih.comp (statusBlind_runJob j)

/-! #### Grant and final effects -/

theorem grantJobs_withStatus (o : Owner) (x d s) : grantJobs o (withStatus x d s) = grantJobs o s := by
  cases o
  case host => exact congrArg HostPlan.jobs (hostPlan_congr (u := withStatus x d s) rfl rfl _)
  all_goals rfl

theorem statusBlind_grantEffects (o : Owner) : StatusBlind (grantEffects o) := by
  cases o
  case frame =>
    refine .of_commutes fun x d s => ?_
    simp only [grantEffects, withStatus_hold]
    split <;> rfl
  all_goals exact .of_commutes fun _ _ _ => rfl

theorem statusBlind_openTx (o : Owner) : StatusBlind (openTx o) := by
  intro x d s
  obtain ⟨y, hy⟩ := statusBlind_grantEffects o x d s
  refine ⟨y, ?_⟩
  rw [openTx, hy, grantJobs_withStatus]
  rfl

/-- No final effect but that of a host command reads STATUS or writes an answer (R181, R229). -/
theorem statusBlind_finalEffects {o : Owner} (h : o ≠ .host) : StatusBlind (finalEffects o) := by
  cases o
  case nobody | sched => exact .of_commutes fun _ _ _ => rfl
  case host => exact absurd rfl h
  case frame =>
    intro x d s
    simp only [finalEffects, withStatus_hold]
    split
    · refine ⟨x, ?_⟩
      unfold frameFinal frameSlots slot2Apply
      split <;> rfl
    · exact ⟨_, rfl⟩

/-! #### The chips, the receiver, the tick generator, the host port -/

theorem statusBlind_observe (old new : BusPins) : StatusBlind (observe old new) := by
  have hsees : ∀ c, StatusBlind (fun s => chipSees old new s c) := fun c =>
    .ite
      (.ite (.of_commutes fun _ _ _ => rfl)
        (.ite (statusBlind_chipStores c old.dO) (.of_commutes fun _ _ _ => rfl) fun _ _ _ => Iff.rfl)
        fun _ _ _ => Iff.rfl)
      (.of_commutes fun _ _ _ => rfl) fun _ _ _ => Iff.rfl
  exact (hsees 2).comp ((hsees 1).comp (hsees 0))

theorem statusBlind_clockPins (old : BusPins) : StatusBlind (clockPins old) := fun x d s =>
  statusBlind_observe old (drivePins s).pins x d (drivePins s)

theorem statusBlind_completeFrame (f : Frame) : StatusBlind (completeFrame f) := by
  have hhold : StatusBlind (holdFrame f) :=
    .ite (fun _ _ _ => ⟨_, rfl⟩) (.of_commutes fun _ _ _ => rfl) fun _ _ _ => Iff.rfl
  intro x d s
  unfold completeFrame
  split
  · exact hhold x d s
  · exact ⟨_, rfl⟩

theorem statusBlind_receiveByte (b : Byte) : StatusBlind (receiveByte b) := by
  intro x d s
  by_cases h : s.rx.rxCount.val < 16
  · rw [receiveByte_of_room b h, receiveByte_of_room (s := withStatus x d s) b h]
    exact ⟨x, rfl⟩
  · have hfull : s.rx.rxCount.val = 16 := by omega
    rw [receiveByte_of_full b hfull, receiveByte_of_full (s := withStatus x d s) b hfull]
    exact statusBlind_completeFrame _ x d { s with rx := ⟨s.rx.rxBuf, 0, 0⟩ }

theorem statusBlind_receiverCycle (i : PinsIn) : StatusBlind (receiverCycle i) := by
  have hsilence : StatusBlind receiveNothing :=
    .ite (.of_commutes fun _ _ _ => rfl)
      (.ite (fun _ _ _ => ⟨_, rfl⟩) (.of_commutes fun _ _ _ => rfl) fun _ _ _ => Iff.rfl) fun _ _ _ => Iff.rfl
  exact .ite (statusBlind_receiveByte i.rxData) hsilence fun _ _ _ => Iff.rfl

theorem statusBlind_raiseTick : StatusBlind raiseTick :=
  .ite (fun _ _ _ => ⟨_, rfl⟩) (.of_commutes fun _ _ _ => rfl) fun _ _ _ => Iff.rfl

theorem statusBlind_tickCycle : StatusBlind tickCycle :=
  .ite (fun x d s => statusBlind_raiseTick x d { s with tick := { s.tick with tickDiv := 0 } })
    (.of_commutes fun _ _ _ => rfl) fun _ _ _ => Iff.rfl

theorem statusBlind_acceptHost (i : PinsIn) (p : Bool) : StatusBlind (acceptHost i p) :=
  .ite (.of_commutes fun _ _ _ => rfl) (.of_commutes fun _ _ _ => rfl) fun _ _ _ => Iff.rfl

/-! #### Two machines that differ in STATUS, and in an answer of READ_STATUS -/

/-- Machine `a` with answer `d`, and machine `b`, which is `a` but for its STATUS and for its answer `e`. -/
def SameButStatus (d e : Byte) (a b : State) : Prop := a.host.hRdataO = d ∧ ∃ y, b = withStatus y e a

theorem SameButStatus.refl (s : State) : SameButStatus s.host.hRdataO s.host.hRdataO s s := ⟨rfl, s.status, rfl⟩

theorem SameButStatus.map {f : State → State} (hf : StatusBlind f) {d e : Byte} {a b : State}
    (h : SameButStatus d e a b) : SameButStatus d e (f a) (f b) := by
  obtain ⟨rfl, x, rfl⟩ := h
  obtain ⟨y, hy⟩ := hf a.status a.host.hRdataO a
  have hanswer := congrArg (·.host.hRdataO) hy
  exact ⟨hanswer, hf x e a⟩

/-- After a step that ends READ_STATUS, from STATUS `u` and `x`, or that does not: the two machines answer their own STATUS, or
alike. -/
def Answered (ends : Bool) (u x : BitVec 8) (a b : State) : Prop :=
  if ends then SameButStatus u x a b else ∃ d, SameButStatus d d a b

theorem Answered.map {f : State → State} (hf : StatusBlind f) {ends : Bool} {u x : BitVec 8} {a b : State}
    (h : Answered ends u x a b) : Answered ends u x (f a) (f b) := by
  cases ends
  · obtain ⟨d, hd⟩ := h
    exact ⟨d, hd.map hf⟩
  · exact SameButStatus.map hf h

theorem SameButStatus.answered {d : Byte} {a b : State} (h : SameButStatus d d a b) {ends : Bool} (he : ends = false)
    (u x : BitVec 8) : Answered ends u x a b := by
  rw [he]
  exact ⟨d, h⟩

/-- The end of a command that is not READ_STATUS answers alike. -/
theorem sameButStatus_finishHost {p : HostPlan} (h : p.data ≠ .status) (x : BitVec 8) (d : Byte) (s : State) :
    ∃ e, SameButStatus e e (finishHost p s) (finishHost p (withStatus x d s)) := by
  rcases p with ⟨e, js, data⟩
  cases data
  case byte b => cases e <;> exact ⟨_, rfl, _, rfl⟩
  case status => exact absurd rfl h

/-- The final effects read STATUS for READ_STATUS alone (R142). -/
theorem answered_finalEffects {d : Byte} {a b : State} (h : SameButStatus d d a b) (o : Owner) :
    Answered (decide (o = .host) && decide (a.host.hostCmd = 0x60000000)) a.status b.status
      (finalEffects o a) (finalEffects o b) := by
  by_cases ho : o = .host
  · obtain ⟨-, x, rfl⟩ := h
    subst ho
    simp only [finalEffects, withStatus_hostCmd, hostPlan_congr (u := withStatus x d a) (a := a) rfl rfl]
    by_cases hcmd : a.host.hostCmd = 0x60000000
    · rw [hcmd, hostPlan_readStatus]
      exact ⟨rfl, _, rfl⟩
    · have hdata : (hostPlan a.host.hostCmd a).data ≠ .status := fun hd => hcmd (word_of_hostPlan_status hd)
      obtain ⟨e, he⟩ := sameButStatus_finishHost hdata x d a
      exact he.answered (by rw [decide_eq_false hcmd, Bool.and_false]) _ _
  · exact (h.map (statusBlind_finalEffects ho)).answered (by simp [ho]) _ _

/-! #### The step -/

theorem answered_txCycle {d : Byte} {a b : State} (h : SameButStatus d d a b) :
    Answered (decide (a.tx.owner = .host ∧ a.tx.txPhase = .final) && decide (a.host.hostCmd = 0x60000000)) a.status b.status
      (txCycle a) (txCycle b) := by
  have hrelease : StatusBlind releaseBus := .of_commutes fun _ _ _ => rfl
  have hfinal := (answered_finalEffects h a.tx.owner).map hrelease
  have hengine := h.map statusBlind_engineCycle
  have hgrant := (h.map (statusBlind_openTx (arbitrate a))).map statusBlind_engineCycle
  obtain ⟨-, x, rfl⟩ := h
  rw [txCycle_eq a, txCycle_eq (withStatus x d a), withStatus_tx, arbitrate_withStatus]
  split_ifs with ho ha hp
  · exact hengine.answered (by simp [ho]) _ _
  · exact hgrant.answered (by simp [ho]) _ _
  · simpa [hp] using hfinal
  · exact hengine.answered (by simp [hp]) _ _

theorem answered_runCycle {d : Byte} {a b : State} (h : SameButStatus d d a b) (i : PinsIn) :
    Answered (decide (a.tx.owner = .host ∧ a.tx.txPhase = .final) && decide (a.host.hostCmd = 0x60000000)) a.status b.status
      (runCycle i a) (runCycle i b) := by
  have hdone : StatusBlind clearDone := .of_commutes fun _ _ _ => rfl
  have htx := answered_txCycle (h.map hdone)
  obtain ⟨-, x, rfl⟩ := h
  exact ((((htx.map (statusBlind_clockPins a.pins)).map (statusBlind_receiverCycle i)).map statusBlind_tickCycle).map
    (statusBlind_acceptHost i a.host.hostPending))

theorem answered_cycle {d : Byte} {a b : State} (h : SameButStatus d d a b) (i : PinsIn) :
    Answered (!i.rst && decide (a.tx.owner = .host ∧ a.tx.txPhase = .final) && decide (a.host.hostCmd = 0x60000000))
      a.status b.status (cycle i a) (cycle i b) := by
  unfold cycle
  split
  · next hi =>
    obtain ⟨-, x, rfl⟩ := h
    have hreset : resetCycle i (withStatus x d a) = resetCycle i a := rfl
    rw [hreset]
    exact (SameButStatus.refl _).answered (by simp [hi]) _ _
  · next hi => simpa [hi] using answered_runCycle h i

theorem answered_event {d : Byte} {a b ta : State} {e : Event} (h : SameButStatus d d a b) (ha : event e a = .next ta) :
    ∃ tb, event e b = .next tb ∧
      Answered (decide (e = .complete) && decide (a.tx.owner = .host) && decide (a.host.hostCmd = 0x60000000))
        a.status b.status ta tb := by
  have hdone := h.map (f := clearDone) (.of_commutes fun _ _ _ => rfl)
  have hleft := hdone.map (statusBlind_runJobs (a.tx.txJobs.drop a.tx.txIdx))
  have hclosed := (answered_finalEffects hleft a.tx.owner).map (f := closeTx a.tx.txJobs) (.of_commutes fun _ _ _ => rfl)
  obtain ⟨-, x, rfl⟩ := h
  rcases event_cases ha with ⟨v, rfl, rfl⟩ | ⟨rfl, hc, rfl⟩ | ⟨rfl, rfl⟩ | ⟨w, rfl, hp, rfl⟩ | ⟨o, rfl, ho, hao, hi, rfl⟩ |
    ⟨rfl, ho, hi, rfl⟩
  · exact ⟨_, rfl, (hdone.map (statusBlind_receiveByte v)).answered rfl _ _⟩
  · exact ⟨_, if_neg hc, (hdone.map (f := dropPartial) fun _ _ _ => ⟨_, rfl⟩).answered rfl _ _⟩
  · exact ⟨_, rfl, (hdone.map statusBlind_raiseTick).answered rfl _ _⟩
  · exact ⟨_, if_neg (ne_true_of_eq_false hp),
      (hdone.map (f := takeOffer w) (.of_commutes fun _ _ _ => rfl)).answered rfl _ _⟩
  · exact ⟨_, if_pos ⟨ho, hao, hi⟩, (hdone.map (statusBlind_openTx o)).answered rfl _ _⟩
  · refine ⟨_, if_pos ⟨ho, hi⟩, ?_⟩
    simpa [completeTx] using hclosed

theorem answered_transaction {d : Byte} {a b ta : State} (h : SameButStatus d d a b) (ha : transaction a = .next ta) :
    ∃ tb, transaction b = .next tb ∧
      Answered (decide (arbitrate a = .host) && decide (a.host.hostCmd = 0x60000000)) a.status b.status ta tb := by
  have hdone := h.map (f := clearDone) (.of_commutes fun _ _ _ => rfl)
  have hjobs := (hdone.map (statusBlind_grantEffects (arbitrate a))).map (statusBlind_runJobs (grantJobs (arbitrate a) a))
  have hclosed := (answered_finalEffects hjobs (arbitrate a)).map (f := closeTx (grantJobs (arbitrate a) a))
    (.of_commutes fun _ _ _ => rfl)
  obtain ⟨-, x, rfl⟩ := h
  have hgrant : arbitrate a ≠ .nobody := by
    intro hn
    simp [transaction, fetch, hn] at ha
  rw [transaction_eq hgrant] at ha
  cases ha
  refine ⟨_, transaction_eq (s := withStatus x d a) hgrant, ?_⟩
  rw [arbitrate_withStatus, grantJobs_withStatus]
  simpa [afterJobs, grantJobs_withStatus] using hclosed

/-- The step ends READ_STATUS exactly as `endsReadStatus` says. -/
theorem answered_step {s t : State} (h : step s = .next t) (x : BitVec 8) :
    ∃ t', step { s with status := x } = .next t' ∧ Answered (endsReadStatus s) s.status x t t' := by
  have hstart : ∀ rest, SameButStatus s.host.hRdataO s.host.hRdataO { s with schedule := rest }
      { s with status := x, schedule := rest } := fun rest => ⟨rfl, x, rfl⟩
  rcases step_cases h with ⟨hq, rfl⟩ | ⟨i, rest, hq, rfl⟩ | ⟨e, rest, hq, he⟩ | ⟨rest, hq, ht⟩ <;>
    simp only [step, hq]
  · have hcycle := answered_cycle (a := s) (b := { s with status := x }) ⟨rfl, x, rfl⟩ .idle
    exact ⟨_, rfl, by simpa [endsReadStatus, hq, PinsIn.idle] using hcycle⟩
  · have hcycle := answered_cycle (hstart rest) i
    exact ⟨_, rfl, by simpa [endsReadStatus, hq] using hcycle⟩
  · obtain ⟨t', ht', hanswer⟩ := answered_event (hstart rest) he
    refine ⟨t', ht', ?_⟩
    cases e <;> simpa [endsReadStatus, hq] using hanswer
  · obtain ⟨t', ht', hanswer⟩ := answered_transaction (hstart rest) ht
    have harb : arbitrate { s with schedule := rest } = arbitrate s := rfl
    rw [harb] at hanswer
    exact ⟨t', ht', by simpa [endsReadStatus, hq] using hanswer⟩

/-- Settles O54: every agent does the same whatever STATUS holds, but the end of READ_STATUS, which answers it. -/
theorem statusInfluencesNothing : Obligations.StatusInfluencesNothing := by
  intro s t x h
  obtain ⟨t', ht', hanswer⟩ := answered_step h x
  refine ⟨t', ht', ?_⟩
  by_cases hends : endsReadStatus s = true
  · rw [Answered, if_pos hends] at hanswer
    obtain ⟨hd, y, rfl⟩ := hanswer
    rw [if_pos hends, ← hd]
    exact ⟨rfl, rfl, rfl⟩
  · rw [Answered, if_neg hends] at hanswer
    obtain ⟨d, rfl, y, rfl⟩ := hanswer
    rw [if_neg hends]
    rfl

end Sys2Proof.Machine

/-! # Proofs: the frame decoder (41_frame_decoder.md) -/

namespace Sys2Proof.Machine

/-! ### A frame that names no chip (R174, R186) -/

/-- Settles O21: such a frame raises RX_BADCHIP, which is one bit of STATUS. -/
theorem badChipFrameIsDiscarded : Obligations.BadChipFrameIsDiscarded := by
  intro s f hf
  have hexec : exec (.frame f) s = .next (raiseDiscard .rxBadChip (clearDone s)) := by
    simp only [exec, execFrame, frameChip_eq_none.mpr hf]
  have hbus : BusKept s (raiseDiscard .rxBadChip (clearDone s)) := ⟨rfl, rfl, rfl, rfl, rfl, fun _ => rfl⟩
  exact ⟨_, hexec, rfl, hbus, ⟨rfl, rfl, rfl⟩, ⟨rfl, rfl, rfl, rfl⟩, rfl, rfl, rfl, rfl, rfl, rfl, rfl, rfl, rfl⟩

/-! ### SLOT2 (R183, R185) -/

/-- Slot 2 writes the sample of the voice it names, and no other (R185). -/
theorem slot2Apply_spAt (c c' : Chip) (voice : BitVec 2) (presc : BitVec 3) (count : Byte) (id : BitVec 5) (s : State)
    (v : Voice) :
    (slot2Apply c voice presc count id s).spAt c' v =
      if c' = c ∧ voiceOperand voice = some v then slot2Play s.cfg (ticksOf s.cfg presc count) id (s.spAt c' v)
      else s.spAt c' v := by
  unfold slot2Apply
  cases hvoice : voiceOperand voice with
  | none => simp
  | some w =>
    by_cases hc : c' = c
    · subst hc
      by_cases hv : v = w
      · simp [State.spAt, hv]
      · simp [State.spAt, Triple.get_set_ne _ hv, Ne.symm hv]
    · simp [State.spAt, Triple.get_set_ne _ hc, hc]

/-- Slot 2 writes nothing but samples. -/
theorem slot2Apply_frame (c : Chip) (voice : BitVec 2) (presc : BitVec 3) (count : Byte) (id : BitVec 5) (s : State) :
    { slot2Apply c voice presc count id s with sp := s.sp } = s := by
  unfold slot2Apply
  split <;> rfl

/-- Settles O23: voice by voice of the slot's chip. -/
theorem slot2ArmsOrStops : Obligations.Slot2ArmsOrStops := by
  intro s c voice presc count id ticks
  have hlen : s.cfg.lenOf id = 0 ↔ (s.cfg.lenOf id).toNat = 0 := BitVec.toNat_inj.symm
  refine ⟨slot2Apply c voice presc count id s, rfl, fun v => ?_, fun c' v hc => ?_, slot2Apply_frame ..⟩
  · simp only [slot2Apply_spAt, voiceOperand_eq_some, true_and, slot2Play, ticksOf_eq_zero, hlen]
    rfl
  · rw [slot2Apply_spAt, if_neg fun h => hc h.1]

/-! ### FRAME (R178 to R182, R187) -/

/-- The events of register r of a FRAME, its chip selected (R121, R179). -/
def frameEvents (c : Chip) (f : Frame) (r : Fin 14) : List BusEvent :=
  [.addr c (BitVec.ofNat 5 r.val), .data c (BitVec.ofNat 5 r.val) (f[r.val + 1] &&& maskTable[r])]

theorem runJob_frameJob (c : Chip) (f : Frame) (r : Fin 14) (s : State) :
    runJob s (frameJob c f r) = busWrite c (BitVec.ofNat 5 r.val) (frameReg f r) s := rfl

theorem runJob_frameJob_trace (c : Chip) (f : Frame) (r : Fin 14) (s : State) :
    (runJob s (frameJob c f r)).trace = s.trace ++ selEvents c s ++ frameEvents c f r := by
  rw [runJob_frameJob, busWrite_trace, maskOf_frameReg]
  rfl

/-- Register after register, with one selection at most: the first write leaves the chip selected (R124, R179). -/
theorem runJobs_frameJob_trace (c : Chip) (f : Frame) (r : Fin 14) (rs : List (Fin 14)) (s : State) :
    (runJobs ((r :: rs).map (frameJob c f)) s).trace =
      s.trace ++ (selEvents c s ++ (r :: rs).flatMap (frameEvents c f)) := by
  induction rs generalizing r s with
  | nil => simp [runJob_frameJob_trace, runJobs_cons]
  | cons k ks ih =>
    have hselected : selEvents c (runJob s (frameJob c f r)) = [] := if_pos (by simp [runJob_frameJob])
    rw [List.map_cons, runJobs_cons, ih, hselected, runJob_frameJob_trace]
    simp

theorem frameJobs_eq (c : Chip) (f : Frame) : frameJobs c f = (List.finRange 14).map (frameJob c f) := rfl

theorem frameTransaction_trace (c : Chip) (f : Frame) (s : State) :
    (frameTransaction c f s).trace = s.trace ++ (selEvents c s ++ (List.finRange 14).flatMap (frameEvents c f)) := by
  have hjobs : (frameTransaction c f s).trace = (runJobs (frameJobs c f) (toggleLed c (clearDone s))).trace := by
    simp [frameTransaction]
  rw [hjobs, frameJobs_eq]
  exact runJobs_frameJob_trace c f 0 (List.finRange 14).tail (toggleLed c (clearDone s))

/-- The last write of a FRAME is that of register 13 (R179). -/
theorem frameTransaction_bus (c : Chip) (f : Frame) (s : State) :
    (frameTransaction c f s).bus = ⟨some c, true, 13⟩ := by
  have hlast : frameJobs c f = frameRegs.dropLast.map (frameJob c f) ++ [frameJob c f 13] := rfl
  have hjobs : (frameTransaction c f s).bus = (runJobs (frameJobs c f) (toggleLed c (clearDone s))).bus := by
    simp [frameTransaction]
  rw [hjobs, hlast, runJobs_append]
  exact busWrite_bus _ c 13 _

theorem frameTransaction_led (c : Chip) (f : Frame) (s : State) :
    (frameTransaction c f s).led = s.led.set c (!s.led.get c) := by
  simp [frameTransaction]

theorem frameTransaction_hold (c : Chip) (f : Frame) (s : State) :
    (frameTransaction c f s).hold = { s.hold with holdFull := false } := by
  simp [frameTransaction, frameFinal, frameSlots]

theorem commonFrame_frameTransaction (c : Chip) (f : Frame) (s : State) : CommonFrame s (frameTransaction c f s) where
  cfg := by simp
  mode := by simp
  be := by simp
  rx := by simp
  tickDiv := by simp
  schedule := by simp
  strobes := by
    have hpins : (frameTransaction c f s).pins = (runJobs (frameJobs c f) (toggleLed c (clearDone s))).pins := by
      simp [frameTransaction]
    rw [StrobesKept, hpins]
    exact strobesKept_runJobs (toggleLed c (clearDone s)) (frameJobs c f)
  owner := rfl

/-- The timer-synths after a FRAME are those of its slot 1 on the state before it (R181). -/
theorem frameTransaction_ts (c : Chip) (f : Frame) (s : State) :
    (frameTransaction c f s).ts = (slot1Apply c (slot1Voice f) (slot1Presc f) (slot1Count f) s).ts := by
  simp [frameTransaction, frameFinal, frameSlots]

/-- What slot 2 does to the samples depends on them and the parameters alone (R185). -/
theorem slot2Apply_sp_congr {u s : State} (hcfg : u.cfg = s.cfg) (hsp : u.sp = s.sp) (c : Chip) (voice : BitVec 2)
    (presc : BitVec 3) (count : Byte) (id : BitVec 5) :
    (slot2Apply c voice presc count id u).sp = (slot2Apply c voice presc count id s).sp := by
  unfold slot2Apply
  split
  · exact hsp
  · simp only [State.spAt, hcfg, hsp]

/-- The samples after a FRAME are those of its slot 2 on the state before it (R181). -/
theorem frameTransaction_sp (c : Chip) (f : Frame) (s : State) :
    (frameTransaction c f s).sp = (slot2Apply c (slot2Voice f) (slot2Presc f) (slot2Count f) (slot2Id f) s).sp := by
  simp only [frameTransaction, closeTx_sp, frameFinal, releaseHold_sp, frameSlots]
  exact slot2Apply_sp_congr (by simp) (by simp) ..

/-- ID2 comes from the volume byte of the voice that V2 names (R182). -/
theorem slot2Id_eq {f : Frame} (h : slot2Voice f ≠ 0) :
    slot2Id f = lowFive (f[9 + ((slot2Voice f).toNat - 1)]'(by have := (slot2Voice f).isLt; omega)) := by
  rcases voiceField_cases (slot2Voice f) with hv | hv | hv | hv
  · exact absurd hv h
  all_goals
    simp only [slot2Id, hv]
    rfl

/-- With V2 = 0 slot 2 does nothing whatever the id (R185). -/
theorem slot2Apply_slot2Id (c : Chip) (f : Frame) (presc : BitVec 3) (count : Byte) (s : State) :
    slot2Apply c (slot2Voice f) presc count (slot2Id f) s =
      slot2Apply c (slot2Voice f) presc count
        (lowFive (f[9 + ((slot2Voice f).toNat - 1)]'(by have := (slot2Voice f).isLt; omega))) s := by
  by_cases h : slot2Voice f = 0
  · have hnone : voiceOperand (slot2Voice f) = none := by rw [h]; rfl
    simp only [slot2Apply, hnone]
  · rw [slot2Id_eq h]

/-- Settles O19: the jobs give the bus, the grant the indicator, the final cycle the slots and the hold. -/
theorem frameWritesFourteenRegisters : Obligations.FrameWritesFourteenRegisters := by
  intro s f c hc v2 id2
  have hexec : exec (.frame f) s = .next (frameTransaction c f s) := by
    simp only [exec, execFrame, frameChip_eq_some.mpr hc]
  have hled : ∀ c', (frameTransaction c f s).led.get c' = if c' = c then !s.led.get c' else s.led.get c' := by
    intro c'
    rw [frameTransaction_led, Triple.get_set]
    split
    · next h => rw [h]
    · rfl
  refine ⟨_, hexec, commonFrame_frameTransaction c f s, ?_, by simp, ?_, by simp, frameTransaction_hold c f s, hled,
    frameTransaction_trace c f s, frameTransaction_bus c f s, ⟨_, rfl, frameTransaction_ts c f s⟩, ⟨_, rfl, ?_⟩⟩
  · rw [HostRegsKept, frameTransaction_host]
    exact ⟨rfl, rfl, rfl, rfl⟩
  · simp [frameTransaction]
  · rw [frameTransaction_sp, slot2Apply_slot2Id]
    rfl

end Sys2Proof.Machine

namespace Sys2Proof.Machine

/-! ### The indicators (R180) -/

/-- A FRAME's grant toggles the indicator of its chip (R180, R285). -/
theorem grantEffects_led_get (x : Owner) (s : State) (c : Chip) :
    (grantEffects x s).led.get c =
      if x = .frame ∧ s.hold.hold[0].toNat = c.val then !s.led.get c else s.led.get c := by
  cases x <;> simp only [grantEffects]
  case frame =>
    cases hchip : frameChip s.hold.hold with
    | none =>
      have hbad := frameChip_eq_none.mp hchip
      rw [if_neg (by omega)]
    | some d =>
      have hd : s.hold.hold[0].toNat = c.val ↔ c = d := by
        rw [frameChip_eq_some.mp hchip, Fin.ext_iff, eq_comm]
      simp only [toggleLed_led, Triple.get_set, true_and, hd]
      split
      · next h => rw [h]
      · rfl
  all_goals simp

/-- In a cycle the indicators see the grant alone, if there is one. -/
theorem txCycle_led (s : State) : (txCycle s).led = (grantEffects (arbitrate s) s).led := by
  have hnone : s.tx.owner ≠ .nobody → grantEffects (arbitrate s) s = s := fun ho => by
    rw [show arbitrate s = .nobody from if_pos ho]
    rfl
  rcases txCycle_cases s with ⟨-, ha, e⟩ | ⟨-, -, e⟩ | ⟨ho, -, e⟩ | ⟨ho, -, e⟩ <;> rw [e]
  · rw [ha, engineCycle_led]
    rfl
  · rw [engineCycle_led]
    rfl
  · rw [hnone ho, releaseBus_led, finalEffects_led]
  · rw [hnone ho, engineCycle_led]

/-- Settles O40: only a FRAME's grant writes an indicator, that of the chip its frame names. -/
theorem indicatorTogglesAtFrameGrants : Obligations.IndicatorTogglesAtFrameGrants := by
  intro s i c hi
  have hled : (cycle i s).led = (grantEffects (arbitrate s) (clearDone s)).led := by
    have hgrant : arbitrate (clearDone s) = arbitrate s := rfl
    simp [cycle, hi, runCycle, txCycle_led, hgrant]
  exact ⟨by rw [hled, grantEffects_led_get]; rfl, rfl⟩

/-! ### The receiver cycle by cycle (R172, R173, R177) -/

theorem receiveNothing_of_empty {s : State} (h : s.rx.rxCount.val = 0) :
    receiveNothing s = { s with rx := { s.rx with rxIdle := 0 } } := if_pos (Fin.ext h)

theorem receiveNothing_of_timeout {s : State} (hpartial : 1 ≤ s.rx.rxCount.val)
    (hidle : s.rx.rxIdle + 1 = s.cfg.rxTimeout) : receiveNothing s = dropPartial s := by
  have hcount : s.rx.rxCount ≠ 0 := Fin.ne_of_val_ne (by simp; omega)
  rw [receiveNothing, if_neg hcount, if_pos (by omega)]

theorem receiveNothing_of_silence {s : State} (hpartial : 1 ≤ s.rx.rxCount.val)
    (hidle : s.rx.rxIdle + 1 < s.cfg.rxTimeout) :
    receiveNothing s = { s with rx := { s.rx with rxIdle := s.rx.rxIdle + 1 } } := by
  have hcount : s.rx.rxCount ≠ 0 := Fin.ne_of_val_ne (by simp; omega)
  rw [receiveNothing, if_neg hcount, if_neg (by omega)]

@[simp] theorem clockPins_rx (old : BusPins) (u : State) : (clockPins old u).rx = u.rx := by simp [clockPins]

@[simp] theorem clockPins_hold (old : BusPins) (u : State) : (clockPins old u).hold = u.hold := by simp [clockPins]

/-- The state the receiver acts on in a cycle: the transaction has had its part, and the chips have seen the edge
(R287). -/
def beforeReceiver (s : State) : State := clockPins s.pins (txCycle (clearDone s))

@[simp] theorem beforeReceiver_rx (s : State) : (beforeReceiver s).rx = s.rx := by simp [beforeReceiver]

@[simp] theorem beforeReceiver_cfg (s : State) : (beforeReceiver s).cfg = s.cfg := by simp [beforeReceiver]

/-- Only the receiver writes its buffer and counters (R177). -/
theorem cycle_rx {i : PinsIn} (hi : i.rst = false) (s : State) :
    (cycle i s).rx = (receiverCycle i (beforeReceiver s)).rx := by
  simp [cycle, hi, runCycle, beforeReceiver, clockPins]

/-- Settles O42: the receiver's part of the cycle, on a buffer and counters that the bus has not touched. -/
theorem receiverAssemblesFrames : Obligations.ReceiverAssemblesFrames := by
  intro s i hi
  have hrx : (beforeReceiver s).rx = s.rx := beforeReceiver_rx s
  have hcfg : (beforeReceiver s).cfg = s.cfg := beforeReceiver_cfg s
  rw [cycle_rx hi]
  generalize beforeReceiver s = u at hrx hcfg ⊢
  have hbyte : i.rxValid = true → receiverCycle i u = receiveByte i.rxData u := fun hv => if_pos hv
  have hnone : i.rxValid = false → receiverCycle i u = receiveNothing u := fun hv => if_neg (by simp [hv])
  refine ⟨fun hv h => ?_, fun hv h => ?_, fun hv h => ?_, fun hv h hidle => ?_, fun hv h hidle => ?_⟩
  · have hroom : u.rx.rxCount.val < 16 := by rwa [hrx]
    rw [hbyte hv, receiveByte_of_room _ hroom]
    change rxWithByte u.rx i.rxData hroom = rxWithByte s.rx i.rxData h
    simp only [hrx]
  · rw [← hrx] at h ⊢
    rw [hbyte hv, receiveByte_of_full _ h, completeFrame_rx]
  · rw [← hrx] at h ⊢
    rw [hnone hv, receiveNothing_of_empty h]
  · rw [← hrx] at h hidle ⊢
    rw [hnone hv, receiveNothing_of_timeout h (hcfg ▸ hidle)]
    rfl
  · rw [← hrx] at h hidle ⊢
    rw [hnone hv, receiveNothing_of_silence h (hcfg ▸ hidle)]

/-! ### The frame hold (R175, R181, R287) -/

/-- The final cycle of a FRAME releases the hold, whatever frame is held; no other transaction's does (R181). -/
theorem finalEffects_hold (x : Owner) (s : State) :
    (finalEffects x s).hold = if x = .frame then { s.hold with holdFull := false } else s.hold := by
  cases x <;> simp only [finalEffects]
  case frame =>
    split
    · simp [frameFinal, frameSlots]
    · rfl
  all_goals simp

theorem txCycle_hold (s : State) :
    (txCycle s).hold =
      if s.tx.owner = .frame ∧ s.tx.txPhase = .final then { s.hold with holdFull := false } else s.hold := by
  rcases txCycle_cases s with ⟨ho, -, e⟩ | ⟨ho, -, e⟩ | ⟨-, hp, e⟩ | ⟨-, hp, e⟩ <;> rw [e]
  · simp [ho]
  · simp [ho]
  · simp [hp, finalEffects_hold]
  · simp [hp]

/-- A valid complete frame goes into a free hold; nothing else the receiver does writes the hold (R174, R175). -/
theorem receiverCycle_hold (i : PinsIn) (s : State) :
    let frame : Frame := s.rx.rxBuf.push i.rxData
    (receiverCycle i s).hold =
      if i.rxValid = true ∧ s.rx.rxCount.val = 16 ∧ frame[0].toNat ≤ 2 ∧ s.hold.holdFull = false then ⟨frame, true⟩
      else s.hold := by
  intro frame
  unfold receiverCycle
  split
  · next hv =>
    by_cases hroom : s.rx.rxCount.val < 16
    · rw [receiveByte_of_room _ hroom, if_neg (by omega)]
    · have hfull : s.rx.rxCount.val = 16 := by omega
      rw [receiveByte_of_full _ hfull]
      rcases completeFrame_cases frame { s with rx := ⟨s.rx.rxBuf, 0, 0⟩ } with
        ⟨hbad, e⟩ | ⟨-, hheld, e⟩ | ⟨hgood, hfree, e⟩ <;> rw [e]
      · rw [if_neg (by omega)]
        rfl
      · have hkept : s.hold.holdFull = true := hheld
        rw [if_neg (by simp [hkept])]
        rfl
      · rw [if_pos ⟨hv, hfull, by omega, hfree⟩]
  · next hv => rw [receiveNothing_hold, if_neg fun h => hv h.1]

/-- Settles O43: the receiver finds the hold as the transaction's part of the cycle has left it. -/
theorem holdTakesValidFrames : Obligations.HoldTakesValidFrames := by
  intro s i hi released frame
  have hcycle : (cycle i s).hold = (receiverCycle i (beforeReceiver s)).hold := by
    simp [cycle, hi, runCycle, beforeReceiver, clockPins]
  have hbefore : (beforeReceiver s).hold = if released then { s.hold with holdFull := false } else s.hold := by
    simp only [beforeReceiver, clockPins_hold, txCycle_hold]
    rfl
  rw [hcycle, receiverCycle_hold, hbefore, beforeReceiver_rx]
  by_cases hr : released
  · simp only [hr, if_true, or_true]
    rfl
  · simp only [hr, if_false, or_false]
    rfl

end Sys2Proof.Machine

namespace Sys2Proof.Machine

/-! ### Discards reach STATUS alone (R186, R272) -/

/-- What a byte, a timeout or a tick may write: the receiver, the hold, the tick generator, `h_done_o`, and at most one
flag, of the receiver or the tick (R41, R276). -/
def Arrival (s t : State) : Prop :=
  ∃ (rx : Receiver) (hold : HoldReg) (tick : TickGen) (x : BitVec 8) (done : Bool),
    t = { s with rx := rx, hold := hold, tick := tick, status := x, host := { s.host with hDoneO := done } } ∧
    (x = s.status ∨ ∃ f : StatusFlag, f ≠ .hostErr ∧ x = s.status ||| f.bit)

theorem arrival_receiveByte (s : State) (b : Byte) : Arrival s (receiveByte b (clearDone s)) := by
  by_cases hroom : s.rx.rxCount.val < 16
  · rw [receiveByte_of_room (s := clearDone s) b hroom]
    exact ⟨_, _, _, _, _, rfl, .inl rfl⟩
  · have hfull : s.rx.rxCount.val = 16 := by omega
    rw [receiveByte_of_full (s := clearDone s) b hfull]
    rcases completeFrame_cases (s.rx.rxBuf.push b) { clearDone s with rx := ⟨s.rx.rxBuf, 0, 0⟩ } with
      ⟨-, e⟩ | ⟨-, -, e⟩ | ⟨-, -, e⟩ <;> rw [clearDone_rx, e]
    · exact ⟨_, _, _, _, _, rfl, .inr ⟨.rxBadChip, by decide, rfl⟩⟩
    · exact ⟨_, _, _, _, _, rfl, .inr ⟨.rxOverrun, by decide, rfl⟩⟩
    · exact ⟨_, _, _, _, _, rfl, .inl rfl⟩

theorem arrival_dropPartial (s : State) : Arrival s (dropPartial (clearDone s)) :=
  ⟨_, _, _, _, _, rfl, .inr ⟨.rxShort, by decide, rfl⟩⟩

theorem arrival_raiseTick (s : State) : Arrival s (raiseTick (clearDone s)) := by
  unfold raiseTick
  split
  · exact ⟨_, _, _, _, _, rfl, .inr ⟨.tickOverrun, by decide, rfl⟩⟩
  · exact ⟨_, _, _, _, _, rfl, .inl rfl⟩

theorem arrival_of_event {s t : State} {e : Event} (he : (∃ b, e = .byte b) ∨ e = .timeout ∨ e = .tick)
    (h : event e s = .next t) : Arrival s t := by
  rcases event_cases h with ⟨b, -, rfl⟩ | ⟨-, -, rfl⟩ | ⟨-, rfl⟩ | ⟨w, rfl, -⟩ | ⟨x, rfl, -⟩ | ⟨rfl, -⟩
  · exact arrival_receiveByte s b
  · exact arrival_dropPartial s
  · exact arrival_raiseTick s
  all_goals simp at he

/-- The receiver's and the tick's flags are bits 3:0 (R41). -/
theorem StatusFlag.bit_high {f : StatusFlag} (h : f ≠ .hostErr) : f.bit &&& 0xF0 = 0 := by
  revert h
  cases f <;> decide

theorem and_or_self_left (x y : BitVec 8) : x &&& (x ||| y) = x := by
  ext i
  simpa using Or.inl

/-- Settles O52: each of the three events is an arrival; flags are sticky, and it sets none above bit 3. -/
theorem discardsReachOnlyStatus : Obligations.DiscardsReachOnlyStatus := by
  intro s t e he h
  obtain ⟨rx, hold, tick, x, done, rfl, hx⟩ := arrival_of_event he h
  refine ⟨⟨rfl, rfl, rfl, rfl, rfl, fun _ => rfl⟩, ⟨rfl, rfl, rfl⟩, ⟨rfl, rfl, rfl, rfl⟩,
    rfl, rfl, rfl, rfl, rfl, rfl, ?_⟩
  change s.status &&& x = s.status ∧ x &&& 0xF0 = s.status &&& 0xF0
  rcases hx with rfl | ⟨f, hf, rfl⟩
  · exact ⟨BitVec.and_self, rfl⟩
  · refine ⟨and_or_self_left _ _, ?_⟩
    rw [BitVec.and_or_distrib_right, StatusFlag.bit_high hf]
    exact BitVec.or_zero

end Sys2Proof.Machine

namespace Sys2Proof.Machine

/-! ### An activation: its combinations and its writes (R13, R224, R225, R230) -/

/-- The number of a combination: `k = 3 c + v` (R13). -/
def comboIdx (c : Chip) (v : Voice) : Fin 9 := ⟨3 * c.val + v.val, by omega⟩

/-- The armed combinations among these, in order (R224). -/
def armedCombos (s : State) (ks : List (Fin 9)) : List (Chip × Voice) :=
  (ks.map comboOf).filter (fun cv => armed s cv.1 cv.2)

/-- The amplitude write of a combination: chip, register and value (R224, R230). -/
def ampWrite (s : State) (cv : Chip × Voice) : Chip × RegAddr × Byte :=
  (cv.1, volumeReg cv.2, (ampValue s cv.1 cv.2).setWidth 8)

theorem ampJobs_eq (s : State) (ks : List (Fin 9)) : ampJobs s ks = (armedCombos s ks).map (ampJob s) := rfl

theorem ampWrites_eq (s : State) (ks : List (Fin 9)) : ampWrites s ks = (armedCombos s ks).map (ampWrite s) := rfl

theorem comboOf_eq_iff {k : Fin 9} {c : Chip} {v : Voice} : comboOf k = (c, v) ↔ k = comboIdx c v := by
  simp only [comboOf, comboIdx, Prod.mk.injEq, Fin.ext_iff]
  omega

theorem mem_armedCombos {s : State} {ks : List (Fin 9)} {c : Chip} {v : Voice} :
    (c, v) ∈ armedCombos s ks ↔ armed s c v = true ∧ comboIdx c v ∈ ks := by
  simp [armedCombos, comboOf_eq_iff, and_comm]

theorem nodup_armedCombos (s : State) {ks : List (Fin 9)} (h : ks.Nodup) : (armedCombos s ks).Nodup :=
  (h.map comboOf_injective).filter _

theorem shReg_levelIdx (v : Voice) : shReg (levelIdx v) = volumeReg v := by
  revert v
  exact Fin3.cases rfl rfl rfl

theorem volumeReg_eq_shReg {v : Voice} {i : ShIdx} : volumeReg v = shReg i ↔ i = levelIdx v := by
  rw [← shReg_levelIdx]
  exact ⟨fun h => (shReg_injective h).symm, fun h => h ▸ rfl⟩

theorem levelIdx_injective : Function.Injective levelIdx := fun v w h => by
  apply volumeReg_injective
  rw [← shReg_levelIdx, ← shReg_levelIdx, h]

/-- A write whose register is latched is its data event alone (R133, R230). -/
theorem ampEvents_fast {b : BusTracker} {c : Chip} {r : RegAddr}
    (h : b.selCache = some c ∧ b.latchValid = true ∧ b.latchReg = r) (v : Byte) :
    ampEvents b [(c, r, v)] = [.data c r v] := by
  rw [ampEvents, if_pos h]
  rfl

theorem ampEvents_full {b : BusTracker} {c : Chip} {r : RegAddr}
    (h : ¬ (b.selCache = some c ∧ b.latchValid = true ∧ b.latchReg = r)) (v : Byte) :
    ampEvents b [(c, r, v)] = writeEvents b.selCache c r v := by
  rw [ampEvents, if_neg h]
  exact List.append_nil _

theorem ampEvents_cons (b : BusTracker) (w : Chip × RegAddr × Byte) (ws : List (Chip × RegAddr × Byte)) :
    ampEvents b (w :: ws) = ampEvents b [w] ++ ampEvents ⟨some w.1, true, w.2.1⟩ ws := by
  simp [ampEvents]

/-- What one amplitude job does: its events, the latched register, the shadow byte of its level (R126, R230). -/
theorem runJob_ampJob (s u : State) (cv : Chip × Voice) :
    (runJob u (ampJob s cv)).trace = u.trace ++ ampEvents u.bus [ampWrite s cv] ∧
    (runJob u (ampJob s cv)).bus = ⟨some cv.1, true, volumeReg cv.2⟩ ∧
    (runJob u (ampJob s cv)).shadow =
      shadowAfter cv.1 (volumeReg cv.2) ((ampValue s cv.1 cv.2).setWidth 8) u.shadow := by
  have hmask := amplitude_mask (ampValue s cv.1 cv.2) cv.2
  rcases runJob_cases u (ampJob s cv) with ⟨hk, -⟩ | ⟨hk, -⟩ | ⟨hk, -⟩ | ⟨-, hf, e⟩ | ⟨-, hf, e⟩
  case inr.inr.inr.inl =>
    have hlatched : u.bus.selCache = some cv.1 ∧ u.bus.latchValid = true ∧ u.bus.latchReg = volumeReg cv.2 :=
      fastOk_iff.mp hf
    have hbus : u.bus = ⟨some cv.1, true, volumeReg cv.2⟩ := by
      obtain ⟨hsel, hvalid, hreg⟩ := hlatched
      rw [← hsel, ← hvalid, ← hreg]
    rw [e, busWriteFast_trace, busWriteFast_bus, busWriteFast_shadow]
    simp only [ampJob, hmask, and_true]
    exact ⟨congrArg _ (ampEvents_fast hlatched _).symm, hbus⟩
  case inr.inr.inr.inr =>
    have hslow := fun h => Bool.false_ne_true (hf.symm.trans (fastOk_iff.mpr h))
    rw [e, busWrite_trace_eq_writeEvents, busWrite_bus, busWrite_shadow]
    simp only [ampJob, hmask, and_true]
    exact congrArg _ (ampEvents_full hslow _).symm
  all_goals cases hk

theorem runJobs_ampJob_trace (s u : State) (cvs : List (Chip × Voice)) :
    (runJobs (cvs.map (ampJob s)) u).trace = u.trace ++ ampEvents u.bus (cvs.map (ampWrite s)) := by
  induction cvs generalizing u with
  | nil => simp [ampEvents]
  | cons cv cvs ih =>
    obtain ⟨htrace, hbus, -⟩ := runJob_ampJob s u cv
    rw [List.map_cons, List.map_cons, runJobs_cons, ih, htrace, hbus,
      ampEvents_cons u.bus (ampWrite s cv) (cvs.map (ampWrite s)), List.append_assoc]
    rfl

/-- The tracker after amplitude writes: the last one's chip and register, latched (R125, R133). -/
theorem runJobs_ampJob_bus (s u : State) (cvs : List (Chip × Voice)) :
    (runJobs (cvs.map (ampJob s)) u).bus =
      (((cvs.map (ampWrite s)).getLast?).map fun w => (⟨some w.1, true, w.2.1⟩ : BusTracker)).getD u.bus := by
  rcases cvs.eq_nil_or_concat with rfl | ⟨init, cv, rfl⟩
  · rfl
  · obtain ⟨-, hbus, -⟩ := runJob_ampJob s (runJobs (init.map (ampJob s)) u) cv
    simp [runJobs_append, hbus, ampWrite]

theorem runJob_ampJob_shadowAt (s u : State) (cv : Chip × Voice) (c : Chip) (i : ShIdx) :
    (runJob u (ampJob s cv)).shadowAt c i =
      if c = cv.1 ∧ i = levelIdx cv.2 then (ampValue s cv.1 cv.2).setWidth 8 else u.shadowAt c i := by
  obtain ⟨-, -, hshadow⟩ := runJob_ampJob s u cv
  simp only [State.shadowAt, hshadow, shadowAfter_get, volumeReg_eq_shReg]

/-- The shadow byte of a level follows the amplitude written (R126, R230). -/
theorem runJobs_ampJob_level (s u : State) (cvs : List (Chip × Voice)) (c : Chip) (v : Voice) :
    (runJobs (cvs.map (ampJob s)) u).shadowAt c (levelIdx v) =
      if (c, v) ∈ cvs then (ampValue s c v).setWidth 8 else u.shadowAt c (levelIdx v) := by
  induction cvs generalizing u with
  | nil => simp
  | cons cv cvs ih =>
    rw [List.map_cons, runJobs_cons, ih, runJob_ampJob_shadowAt]
    simp only [levelIdx_injective.eq_iff]
    obtain ⟨c', v'⟩ := cv
    by_cases hlater : (c, v) ∈ cvs
    · simp [hlater]
    · by_cases hnow : c = c' ∧ v = v'
      · obtain ⟨rfl, rfl⟩ := hnow
        simp
      · simp [hlater, hnow]

theorem runJobs_ampJob_other (s u : State) (cvs : List (Chip × Voice)) (c : Chip) {i : ShIdx}
    (hi : ∀ v, i ≠ levelIdx v) : (runJobs (cvs.map (ampJob s)) u).shadowAt c i = u.shadowAt c i := by
  induction cvs generalizing u with
  | nil => rfl
  | cons cv cvs ih => rw [List.map_cons, runJobs_cons, ih, runJob_ampJob_shadowAt, if_neg fun h => hi _ h.2]

/-! ### An activation as one atomic step (R221, R227, R228, R229) -/

theorem exec_tickDirect (s : State) :
    exec .tickDirect s = .next (schedTransaction (ampJobs s (List.finRange 9)) s) := rfl

/-- The combination of the slot (R225). -/
def slotCombo (s : State) : Fin 9 := ⟨s.rrSlot.toNat, by omega⟩

theorem exec_tickRr (s : State) : exec .tickRr s = .next (schedTransaction (ampJobs s [slotCombo s]) s) := rfl

theorem exec_tick {i : Instr} (hi : i = .tickDirect ∨ i = .tickRr) (s : State) :
    ∃ ks, exec i s = .next (schedTransaction (ampJobs s ks) s) := by
  rcases hi with rfl | rfl
  · exact ⟨_, exec_tickDirect s⟩
  · exact ⟨_, exec_tickRr s⟩

theorem commonFrame_schedTransaction (js : List JobReq) (s : State) : CommonFrame s (schedTransaction js s) where
  cfg := by simp
  mode := by simp
  be := by simp
  rx := by simp
  tickDiv := by simp
  schedule := by simp
  strobes := by
    have hpins : (schedTransaction js s).pins = (runJobs js (takeTick (clearDone s))).pins := by
      simp [schedTransaction]
    rw [StrobesKept, hpins]
    exact strobesKept_runJobs (takeTick (clearDone s)) js
  owner := rfl

theorem hostRegsKept_schedTransaction (js : List JobReq) (s : State) : HostRegsKept s (schedTransaction js s) := by
  rw [HostRegsKept, schedTransaction_host]
  exact ⟨rfl, rfl, rfl, rfl⟩

theorem schedTransaction_tickPending (js : List JobReq) (s : State) :
    (schedTransaction js s).tick.tickPending = false := by
  simp [schedTransaction]

@[simp] theorem schedTransaction_rrSlot (js : List JobReq) (s : State) :
    (schedTransaction js s).rrSlot = rrNext s.mode s.rrSlot := by
  simp [schedTransaction]

theorem rrNext_toNat (m : Mode) (slot : BitVec 3) :
    (rrNext m slot).toNat = if m = .rr then (slot.toNat + 1) % 8 else slot.toNat := by
  cases m <;> simp [rrNext, BitVec.toNat_add]

@[simp] theorem schedTransaction_tsAt (js : List JobReq) (s : State) (c : Chip) (v : Voice) :
    (schedTransaction js s).tsAt c v = (s.tsAt c v).advance := by
  simp [schedTransaction, State.tsAt]

@[simp] theorem schedTransaction_spAt (js : List JobReq) (s : State) (c : Chip) (v : Voice) :
    (schedTransaction js s).spAt c v = (s.spAt c v).advance s.cfg := by
  simp [schedTransaction, State.spAt]

theorem schedTransaction_trace (s : State) (ks : List (Fin 9)) :
    (schedTransaction (ampJobs s ks) s).trace = s.trace ++ ampEvents s.bus (ampWrites s ks) := by
  have hjobs : (schedTransaction (ampJobs s ks) s).trace = (runJobs (ampJobs s ks) (takeTick (clearDone s))).trace := by
    simp [schedTransaction]
  rw [hjobs, ampJobs_eq, runJobs_ampJob_trace, ampWrites_eq]
  rfl

theorem schedTransaction_bus (s : State) (ks : List (Fin 9)) :
    (schedTransaction (ampJobs s ks) s).bus =
      ((ampWrites s ks).getLast?.map fun w => (⟨some w.1, true, w.2.1⟩ : BusTracker)).getD s.bus := by
  have hjobs : (schedTransaction (ampJobs s ks) s).bus = (runJobs (ampJobs s ks) (takeTick (clearDone s))).bus := by
    simp [schedTransaction]
  rw [hjobs, ampJobs_eq, runJobs_ampJob_bus, ampWrites_eq]
  rfl

theorem schedTransaction_shadowAt (js : List JobReq) (s : State) (c : Chip) (i : ShIdx) :
    (schedTransaction js s).shadowAt c i = (runJobs js (takeTick (clearDone s))).shadowAt c i := by
  simp [schedTransaction, State.shadowAt]

theorem schedTransaction_level (s : State) (ks : List (Fin 9)) (c : Chip) (v : Voice) :
    (schedTransaction (ampJobs s ks) s).shadowAt c (levelIdx v) =
      if armed s c v = true ∧ comboIdx c v ∈ ks then (ampValue s c v).setWidth 8 else s.shadowAt c (levelIdx v) := by
  rw [schedTransaction_shadowAt, ampJobs_eq, runJobs_ampJob_level]
  simp only [mem_armedCombos]
  rfl

theorem schedTransaction_noLevel (s : State) (ks : List (Fin 9)) (c : Chip) {i : ShIdx}
    (hi : i = .mix ∨ i = .pa ∨ i = .pb) : (schedTransaction (ampJobs s ks) s).shadowAt c i = s.shadowAt c i := by
  have hne : ∀ v, i ≠ levelIdx v := by
    rcases hi with rfl | rfl | rfl <;> exact Fin3.cases nofun nofun nofun
  rw [schedTransaction_shadowAt, ampJobs_eq, runJobs_ampJob_other _ _ _ _ hne]
  rfl

/-- What an activation over the combinations ks does: it takes the tick, writes the armed ones among them and moves the slot
on; `due` says which voices those are. -/
theorem schedTransaction_writes (s : State) (ks : List (Fin 9)) {due : Chip → Voice → Prop} [∀ c v, Decidable (due c v)]
    (hdue : ∀ c v, due c v ↔ armed s c v = true ∧ comboIdx c v ∈ ks) :
    let t := schedTransaction (ampJobs s ks) s
    CommonFrame s t ∧ HostRegsKept s t ∧ t.status = s.status ∧ t.hold = s.hold ∧ t.led = s.led ∧
    t.tick.tickPending = false ∧
    t.rrSlot.toNat = (if s.mode = .rr then (s.rrSlot.toNat + 1) % 8 else s.rrSlot.toNat) ∧
    t.trace = s.trace ++ ampEvents s.bus (ampWrites s ks) ∧
    (∀ c v, t.shadowAt c (levelIdx v) = if due c v then (ampValue s c v).setWidth 8 else s.shadowAt c (levelIdx v)) ∧
    (∀ c i, i = .mix ∨ i = .pa ∨ i = .pb → t.shadowAt c i = s.shadowAt c i) ∧
    (t.bus = match (ampWrites s ks).getLast? with
      | some (c, r, _) => ⟨some c, true, r⟩
      | none => s.bus) := by
  intro t
  refine ⟨commonFrame_schedTransaction _ s, hostRegsKept_schedTransaction _ s, schedTransaction_status s _,
    schedTransaction_hold s _, schedTransaction_led s _, schedTransaction_tickPending _ s, ?_, schedTransaction_trace s _,
    fun c v => ?_, fun c i hi => schedTransaction_noLevel s _ c hi, ?_⟩
  · rw [schedTransaction_rrSlot, rrNext_toNat]
  · simp only [t, schedTransaction_level, hdue]
  · simp only [t, schedTransaction_bus]
    cases (ampWrites s ks).getLast? <;> rfl

/-- Settles O24: every armed voice is due in TICK_DIRECT. -/
theorem tickDirectWritesEveryArmedVoice : Obligations.TickDirectWritesEveryArmedVoice := fun s =>
  ⟨_, exec_tickDirect s, schedTransaction_writes s _ fun c v => by simp⟩

/-- Settles O25: the slot's voice is due in TICK_RR, if it is armed. -/
theorem tickRrWritesTheSlotsVoice : Obligations.TickRrWritesTheSlotsVoice := by
  intro s k hk
  obtain rfl : slotCombo s = k := Fin.ext hk.symm
  refine ⟨_, exec_tickRr s, schedTransaction_writes s [slotCombo s] fun c v => ?_⟩
  rw [List.mem_singleton, comboIdx, Fin.ext_iff]

/-- Settles O27: an activation of either form advances every timer-synth. -/
theorem timerSynthsAdvance : Obligations.TimerSynthsAdvance := by
  intro s i hi
  obtain ⟨ks, h⟩ := exec_tick hi s
  exact ⟨_, h, fun c v => schedTransaction_tsAt _ s c v⟩

/-- Settles O28: an activation of either form advances every sample; ending is not having a next byte. -/
theorem samplesAdvance : Obligations.SamplesAdvance := by
  intro s i hi
  obtain ⟨ks, h⟩ := exec_tick hi s
  refine ⟨_, h, fun c v => ?_⟩
  rw [schedTransaction_spAt]
  simp only [SamplePlay.advance, ← decide_not, not_le]

end Sys2Proof.Machine

namespace Sys2Proof.Machine

/-! ### The data events of an activation (R235, R237) -/

/-- The data event of a write (R63). -/
def dataEvent (w : Chip × RegAddr × Byte) : BusEvent := .data w.1 w.2.1 w.2.2

/-- Of the events of amplitude writes, a filter that lets data events alone through keeps what it keeps of those. -/
theorem filter_ampEvents {p : BusEvent → Bool} (hsel : ∀ c, p (.sel c) = false) (haddr : ∀ c r, p (.addr c r) = false)
    (b : BusTracker) (ws : List (Chip × RegAddr × Byte)) :
    (ampEvents b ws).filter p = (ws.map dataEvent).filter p := by
  induction ws generalizing b with
  | nil => rfl
  | cons w ws ih =>
    have hone : (ampEvents b [w]).filter p = [dataEvent w].filter p := by
      obtain ⟨c, r, v⟩ := w
      by_cases hfast : b.selCache = some c ∧ b.latchValid = true ∧ b.latchReg = r
      · rw [ampEvents_fast hfast]
        rfl
      · rw [ampEvents_full hfast, writeEvents]
        split <;> simp [hsel, haddr, dataEvent]
    rw [ampEvents_cons, List.filter_append, hone, ih, ← List.filter_append]
    rfl

theorem newEvents_schedTransaction (s : State) (ks : List (Fin 9)) :
    newEvents s (schedTransaction (ampJobs s ks) s) = ampEvents s.bus (ampWrites s ks) := by
  rw [newEvents, schedTransaction_trace, List.drop_left]

/-- The data event of an armed combination (R224, R230). -/
def voiceEvent (s : State) (cv : Chip × Voice) : BusEvent := dataEvent (ampWrite s cv)

/-- An activation makes one data event for each armed combination, and no other (R224, R225). -/
theorem dataEvents_schedTransaction (s : State) (ks : List (Fin 9)) :
    (newEvents s (schedTransaction (ampJobs s ks) s)).filter BusEvent.isData = (armedCombos s ks).map (voiceEvent s) := by
  rw [newEvents_schedTransaction, filter_ampEvents (fun _ => rfl) (fun _ _ => rfl), ampWrites_eq, List.map_map]
  exact List.filter_eq_self.mpr fun e he => by
    obtain ⟨cv, -, rfl⟩ := List.mem_map.mp he
    rfl

theorem mem_newEvents_schedTransaction {s : State} {ks : List (Fin 9)} {c : Chip} {r : RegAddr} {vm : Byte}
    (h : .data c r vm ∈ newEvents s (schedTransaction (ampJobs s ks) s)) :
    ∃ v, armed s c v = true ∧ comboIdx c v ∈ ks ∧ r = volumeReg v ∧ vm = (ampValue s c v).setWidth 8 := by
  have hdata : .data c r vm ∈ (armedCombos s ks).map (voiceEvent s) := by
    rw [← dataEvents_schedTransaction]
    exact List.mem_filter.mpr ⟨h, rfl⟩
  obtain ⟨⟨c', v⟩, hcv, he⟩ := List.mem_map.mp hdata
  obtain ⟨rfl, rfl, rfl⟩ := BusEvent.data.inj he
  obtain ⟨harmed, hk⟩ := mem_armedCombos.mp hcv
  exact ⟨v, harmed, hk, rfl, rfl⟩

/-- The data events of one voice in an activation: one if it is armed and its turn has come, none otherwise (R224, R225). -/
theorem voiceEvents_schedTransaction (s : State) {ks : List (Fin 9)} (hks : ks.Nodup) (c : Chip) (v : Voice) :
    (newEvents s (schedTransaction (ampJobs s ks) s)).filter (BusEvent.isDataAt c (volumeReg v)) =
      if armed s c v = true ∧ comboIdx c v ∈ ks then [.data c (volumeReg v) ((ampValue s c v).setWidth 8)] else [] := by
  have hat : (BusEvent.isDataAt c (volumeReg v)) ∘ voiceEvent s = fun cv => decide (cv = (c, v)) := by
    funext cv
    simp [voiceEvent, dataEvent, ampWrite, BusEvent.isDataAt, volumeReg_injective.eq_iff, Prod.ext_iff]
  rw [newEvents_schedTransaction, filter_ampEvents (fun _ => rfl) (fun _ _ => rfl), ampWrites_eq, List.map_map,
    List.filter_map]
  change ((armedCombos s ks).filter (_ ∘ voiceEvent s)).map (voiceEvent s) = _
  rw [hat, List.filter_eq, (nodup_armedCombos s hks).count]
  simp only [mem_armedCombos]
  split <;> rfl

theorem ampValue_of_timerSynth {s : State} {c : Chip} {v : Voice} (h : (s.tsAt c v).active = true) :
    (ampValue s c v).setWidth 8 = if (s.tsAt c v).toggle then (s.tsAt c v).level.setWidth 8 else 0 := by
  rw [ampValue, if_pos h]
  split <;> rfl

theorem ampValue_of_sample {s : State} {c : Chip} {v : Voice} (h : (s.tsAt c v).active = false) :
    (ampValue s c v).setWidth 8 = s.cfg.sampleByte (s.spAt c v).id (s.spAt c v).pos &&& 0x0F := by
  have hlow : ∀ b : Byte, (b.extractLsb' 0 4).setWidth 8 = b &&& 0x0F := by decide
  rw [ampValue, h, if_neg Bool.false_ne_true, hlow]

/-- Settles O29: a voice with two effects is armed, and its amplitude is the timer-synth's. -/
theorem timerSynthTakesPriority : Obligations.TimerSynthTakesPriority := by
  intro s c v hts _ event
  have harmed : armed s c v = true := by simp [armed, hts]
  have hturn : comboIdx c v ∈ [slotCombo s] ↔ s.rrSlot.toNat = 3 * c.val + v.val := by
    rw [List.mem_singleton, Fin.ext_iff]
    exact eq_comm
  refine ⟨⟨_, exec_tickDirect s, ?_⟩, ⟨_, exec_tickRr s, ?_⟩⟩
  · rw [voiceEvents_schedTransaction s (List.nodup_finRange 9), if_pos ⟨harmed, List.mem_finRange _⟩,
      ampValue_of_timerSynth hts]
  · rw [voiceEvents_schedTransaction s (List.nodup_singleton _), ampValue_of_timerSynth hts]
    simp only [harmed, true_and, hturn]
    rfl

/-- Settles O30: every data event is that of an armed voice, and its level's shadow byte is the amplitude. -/
theorem schedulerTouchesOnlyLevels : Obligations.SchedulerTouchesOnlyLevels := by
  intro s i hi
  obtain ⟨ks, hexec⟩ := exec_tick hi s
  refine ⟨_, hexec, fun c r vm hmem => ?_⟩
  obtain ⟨v, harmed, hk, rfl, rfl⟩ := mem_newEvents_schedTransaction hmem
  have hlevel : ∀ v, volumeReg v = 8 ∨ volumeReg v = 9 ∨ volumeReg v = 10 := by decide
  refine ⟨hlevel v, ?_, fun j hj => ?_⟩
  · have := (ampValue s c v).isLt
    rw [BitVec.toNat_setWidth]
    omega
  · rw [volumeReg_eq_shReg.mp hj.symm, schedTransaction_level, if_pos ⟨harmed, hk⟩]

/-! ### Activations one after another (R221, R229) -/

theorem activation_eq (s : State) : activation s = schedTransaction (schedJobs s) s := by
  cases hm : s.mode <;> simp only [activation, schedJobs, hm] <;> rfl

theorem schedJobs_of_direct {s : State} (h : s.mode = .direct) : schedJobs s = ampJobs s (List.finRange 9) := by
  rw [schedJobs, h]
  rfl

@[simp] theorem afterActivations_cfg (n : Nat) (s : State) : (afterActivations n s).cfg = s.cfg := by
  induction n with
  | zero => rfl
  | succ n ih => rw [afterActivations, activation_eq, schedTransaction_cfg, ih]

@[simp] theorem afterActivations_mode (n : Nat) (s : State) : (afterActivations n s).mode = s.mode := by
  induction n with
  | zero => rfl
  | succ n ih => rw [afterActivations, activation_eq, schedTransaction_mode, ih]

theorem afterActivations_succ_tsAt (n : Nat) (s : State) (c : Chip) (v : Voice) :
    (afterActivations (n + 1) s).tsAt c v = ((afterActivations n s).tsAt c v).advance := by
  rw [afterActivations, activation_eq, schedTransaction_tsAt]

theorem afterActivations_succ_spAt (n : Nat) (s : State) (c : Chip) (v : Voice) :
    (afterActivations (n + 1) s).spAt c v = ((afterActivations n s).spAt c v).advance s.cfg := by
  rw [afterActivations, activation_eq, schedTransaction_spAt, afterActivations_cfg]

theorem afterActivations_rrSlot {s : State} (h : s.mode = .rr) (n : Nat) :
    (afterActivations n s).rrSlot.toNat = (s.rrSlot.toNat + n) % 8 := by
  induction n with
  | zero => exact (Nat.mod_eq_of_lt s.rrSlot.isLt).symm
  | succ n ih =>
    rw [afterActivations, activation_eq, schedTransaction_rrSlot, rrNext_toNat, afterActivations_mode, if_pos h, ih]
    omega

/-- Settles O31: one combination at most is written, the slot's; the slot counts modulo 8. -/
theorem roundRobinCoversEightCombinations : Obligations.RoundRobinCoversEightCombinations := by
  intro s hm
  refine ⟨fun n => ⟨_, exec_tickRr _, fun k hk => ?_⟩, fun n k => ?_, fun n t vm ht hmem => ?_⟩
  · intro cv
    obtain rfl : slotCombo (afterActivations n s) = k := Fin.ext hk.symm
    rw [dataEvents_schedTransaction, armedCombos, List.map_singleton, List.filter_singleton]
    cases armed (afterActivations n s) cv.1 cv.2 <;> rfl
  · simp only [afterActivations_rrSlot hm]
    refine ⟨⟨(k.val + 8 - (s.rrSlot.toNat + n) % 8) % 8, Nat.mod_lt _ (by decide)⟩, ?_, fun j hj => Fin.ext ?_⟩
    · have := k.isLt
      simp only
      omega
    · have := j.isLt
      have := k.isLt
      simp only at hj ⊢
      omega
  · rw [exec_tickRr] at ht
    cases ht
    obtain ⟨v, -, hk, hv, -⟩ := mem_newEvents_schedTransaction hmem
    obtain rfl : 2 = v := volumeReg_injective hv
    have hslot : 8 = (afterActivations n s).rrSlot.toNat := congrArg Fin.val (List.mem_singleton.mp hk)
    omega

end Sys2Proof.Machine

namespace Sys2Proof.Machine

/-! ### Waveforms in DIRECT mode (R231, R232, R233, R234) -/

/-- In DIRECT mode each activation makes one data event for each armed voice, and none for another (R224). -/
theorem voiceEvents_afterActivations {s : State} (hm : s.mode = .direct) (n : Nat) (c : Chip) (v : Voice) :
    (newEvents (afterActivations n s) (afterActivations (n + 1) s)).filter (BusEvent.isDataAt c (volumeReg v)) =
      if armed (afterActivations n s) c v = true then
        [.data c (volumeReg v) ((ampValue (afterActivations n s) c v).setWidth 8)]
      else [] := by
  have hmode : (afterActivations n s).mode = .direct := (afterActivations_mode n s).trans hm
  rw [afterActivations, activation_eq, schedJobs_of_direct hmode,
    voiceEvents_schedTransaction _ (List.nodup_finRange 9)]
  simp

/-- The countdown of a record with this reload, n activations after it was armed (R231, R232). -/
def countdownAt (reload : BitVec 16) (n : Nat) : BitVec 16 := reload - BitVec.ofNat 16 (n % reload.toNat)

theorem countdownAt_zero (reload : BitVec 16) : countdownAt reload 0 = reload := by simp [countdownAt]

/-- The countdown is 1 in the last activation of each period of the reload, and reloaded after it; in the others it goes
down. -/
theorem countdownAt_succ {reload : BitVec 16} (h : 1 ≤ reload.toNat) (n : Nat) :
    (countdownAt reload n = 1#16 ∧ (n + 1) / reload.toNat = n / reload.toNat + 1 ∧ countdownAt reload (n + 1) = reload) ∨
    (countdownAt reload n ≠ 1#16 ∧ (n + 1) / reload.toNat = n / reload.toNat ∧
      countdownAt reload (n + 1) = countdownAt reload n - 1) := by
  have hlt := reload.isLt
  have hmod : n % reload.toNat < reload.toNat := Nat.mod_lt n h
  have hn := Nat.div_add_mod n reload.toNat
  by_cases hlast : n % reload.toNat + 1 = reload.toNat
  · have hnext : n + 1 = reload.toNat * (n / reload.toNat + 1) := by
      rw [Nat.mul_add]
      omega
    refine .inl ⟨?_, ?_, ?_⟩
    · unfold countdownAt
      bv_omega
    · rw [hnext, Nat.mul_div_cancel_left _ h]
    · rw [countdownAt, hnext, Nat.mul_mod_right]
      exact BitVec.sub_zero _
  · have hroom : n % reload.toNat + 1 < reload.toNat := by omega
    have hnext : n + 1 = reload.toNat * (n / reload.toNat) + (n % reload.toNat + 1) := by omega
    refine .inr ⟨?_, ?_, ?_⟩
    · unfold countdownAt
      bv_omega
    · rw [hnext, Nat.mul_add_div h, Nat.div_eq_of_lt hroom, Nat.add_zero]
    · rw [countdownAt, hnext, Nat.mul_add_mod, Nat.mod_eq_of_lt hroom, countdownAt]
      bv_omega

/-- A timer-synth n activations after it was armed (R231, R233). -/
def TimerSynth.wave (level : BitVec 4) (reload : BitVec 16) (n : Nat) : TimerSynth :=
  ⟨true, level, reload, countdownAt reload n, decide (n / reload.toNat % 2 = 1)⟩

theorem TimerSynth.advance_wave (level : BitVec 4) {reload : BitVec 16} (h : 1 ≤ reload.toNat) (n : Nat) :
    (wave level reload n).advance = wave level reload (n + 1) := by
  rcases countdownAt_succ h n with ⟨hone, hdiv, hnext⟩ | ⟨hmore, hdiv, hnext⟩
  · have hflip : (!decide (n / reload.toNat % 2 = 1)) = decide ((n / reload.toNat + 1) % 2 = 1) := by
      rw [← decide_not, decide_eq_decide]
      omega
    simp [advance, wave, hone, hdiv, hnext, hflip]
  · simp [advance, wave, hmore, hdiv, hnext]

theorem tsAt_afterActivations {s : State} {c : Chip} {v : Voice} {level : BitVec 4} {reload : BitVec 16}
    (h : 1 ≤ reload.toNat) (harm : s.tsAt c v = ⟨true, level, reload, reload, false⟩) (n : Nat) :
    (afterActivations n s).tsAt c v = .wave level reload n := by
  induction n with
  | zero => simp [afterActivations, harm, TimerSynth.wave, countdownAt_zero]
  | succ n ih => rw [afterActivations_succ_tsAt, ih, TimerSynth.advance_wave level h]

/-- Settles O32: the toggle of the wave is the parity of the periods gone by. -/
theorem timerSynthMakesASquareWave : Obligations.TimerSynthMakesASquareWave := by
  intro s c v level reload hm hreload harm n
  have hts := tsAt_afterActivations hreload harm n
  have hactive : ((afterActivations n s).tsAt c v).active = true := by rw [hts]; rfl
  rw [voiceEvents_afterActivations hm, if_pos (by simp [armed, hactive]), ampValue_of_timerSynth hactive, hts]
  simp [TimerSynth.wave]

/-- A sample n activations after it was armed, while it plays (R232, R234). -/
def SamplePlay.played (id : BitVec 5) (reload : BitVec 16) (n : Nat) : SamplePlay :=
  ⟨true, id, BitVec.ofNat 16 (n / reload.toNat), reload, countdownAt reload n⟩

theorem SamplePlay.played_pos {cfg : Config} {id : BitVec 5} {reload : BitVec 16} {n : Nat}
    (hn : n / reload.toNat < (cfg.lenOf id).toNat) : (played id reload n).pos.toNat = n / reload.toNat :=
  Nat.mod_eq_of_lt (hn.trans (cfg.lenOf id).isLt)

/-- While a byte is left, an advance plays on; the sample ends with its last byte's last activation. -/
theorem SamplePlay.advance_played {cfg : Config} {id : BitVec 5} {reload : BitVec 16} (h : 1 ≤ reload.toNat) {n : Nat}
    (hn : n / reload.toNat < (cfg.lenOf id).toNat) :
    (played id reload n).advance cfg =
      { played id reload (n + 1) with active := decide ((n + 1) / reload.toNat < (cfg.lenOf id).toNat) } := by
  have hpos : (BitVec.ofNat 16 (n / reload.toNat)).toNat = n / reload.toNat := played_pos hn
  rcases countdownAt_succ h n with ⟨hone, hdiv, hnext⟩ | ⟨hmore, hdiv, hnext⟩
  · simp [advance, played, hone, hdiv, hnext, hpos, BitVec.ofNat_add]
  · simp [advance, played, hmore, hdiv, hnext, hn]

theorem TimerSynth.advance_of_inactive {t : TimerSynth} (h : t.active = false) : t.advance = t := by
  simp [advance, h]

theorem SamplePlay.advance_of_inactive {cfg : Config} {p : SamplePlay} (h : p.active = false) : p.advance cfg = p := by
  simp [advance, h]

theorem tsAt_afterActivations_of_inactive {s : State} {c : Chip} {v : Voice} (h : (s.tsAt c v).active = false) (n : Nat) :
    ((afterActivations n s).tsAt c v).active = false := by
  induction n with
  | zero => exact h
  | succ n ih => rw [afterActivations_succ_tsAt, TimerSynth.advance_of_inactive ih, ih]

/-- A sample plays its bytes, T activations each, and is inactive afterwards (R234). -/
theorem spAt_afterActivations {s : State} {c : Chip} {v : Voice} {id : BitVec 5} {reload : BitVec 16}
    (h : 1 ≤ reload.toNat) (hlen : 1 ≤ (s.cfg.lenOf id).toNat) (harm : s.spAt c v = ⟨true, id, 0, reload, reload⟩) (n : Nat) :
    (n / reload.toNat < (s.cfg.lenOf id).toNat ∧ (afterActivations n s).spAt c v = .played id reload n) ∨
    ((s.cfg.lenOf id).toNat ≤ n / reload.toNat ∧ ((afterActivations n s).spAt c v).active = false) := by
  induction n with
  | zero =>
    refine .inl ⟨by rwa [Nat.zero_div], ?_⟩
    simp [afterActivations, harm, SamplePlay.played, countdownAt_zero]
  | succ n ih =>
    rw [afterActivations_succ_spAt]
    rcases ih with ⟨hn, hplay⟩ | ⟨hn, hend⟩
    · rw [hplay, SamplePlay.advance_played h hn]
      by_cases hmore : (n + 1) / reload.toNat < (s.cfg.lenOf id).toNat
      · exact .inl ⟨hmore, by simp [hmore, SamplePlay.played]⟩
      · exact .inr ⟨Nat.le_of_not_lt hmore, decide_eq_false hmore⟩
    · rw [SamplePlay.advance_of_inactive hend]
      exact .inr ⟨hn.trans (Nat.div_le_div_right (Nat.le_succ n)), hend⟩

/-- A read below a sample's length is its byte (R66). -/
theorem sampleData_getElem? {cfg : Config} {id : BitVec 5} {i : BitVec 16}
    (h : i.toNat < cfg.sampleData[id.toNat].length) : cfg.sampleData[id.toNat][i.toNat]? = some (cfg.sampleByte id i) := by
  rw [Config.sampleByte, List.getElem?_eq_getElem h]
  rfl

/-- Settles O33: while a byte is left the voice is armed by its sample alone, whose cursor is at that byte; afterwards by
none. -/
theorem samplesPlayOnceAndStop : Obligations.SamplesPlayOnceAndStop := by
  intro s c v id reload hm hreload hts harm bytes hbytes hlen n
  have hbyte : n < bytes.length * reload.toNat ↔ n / reload.toNat < bytes.length := (Nat.div_lt_iff_lt_mul hreload).symm
  have hsilent := tsAt_afterActivations_of_inactive hts n
  rw [voiceEvents_afterActivations hm, ampValue_of_sample hsilent, armed, hsilent, Bool.false_or, afterActivations_cfg]
  rcases spAt_afterActivations hreload (hlen ▸ hbytes) harm n with ⟨hn, hplay⟩ | ⟨hn, hend⟩
  · have hpos := SamplePlay.played_pos hn
    rw [← hlen] at hn
    have hread : bytes[n / reload.toNat]? = some (s.cfg.sampleByte id (SamplePlay.played id reload n).pos) := by
      rw [← hpos]
      exact sampleData_getElem? (hpos.trans_lt hn)
    rw [hplay, hread]
    exact ⟨(decide_eq_true (hbyte.mpr hn)).symm, rfl⟩
  · rw [← hlen] at hn
    rw [hend, if_neg Bool.false_ne_true, List.getElem?_eq_none hn]
    exact ⟨(decide_eq_false fun h => Nat.not_lt_of_le hn (hbyte.mp h)).symm, rfl⟩

end Sys2Proof.Machine

namespace Sys2Proof.Machine

/-! ### The tick generator in a cycle (R221, R283, R287) -/

theorem tickCycle_tick (s : State) :
    (tickCycle s).tick =
      if s.tick.tickDiv = s.cfg.tickPeriod s.mode - 1 then ⟨0, true⟩ else ⟨s.tick.tickDiv + 1, s.tick.tickPending⟩ := by
  unfold tickCycle
  split
  · cases hp : s.tick.tickPending <;> simp [raiseTick, hp]
  · rfl

theorem grantEffects_tick (x : Owner) (s : State) :
    (grantEffects x s).tick = ⟨s.tick.tickDiv, s.tick.tickPending && !decide (x = .sched)⟩ := by
  cases x <;> simp only [grantEffects]
  case frame => split <;> simp
  all_goals simp

/-- Of the transaction's part of a cycle, only the grant of a SCHED transaction touches the tick (R280, R285). -/
theorem txCycle_tick (s : State) :
    (txCycle s).tick = ⟨s.tick.tickDiv, s.tick.tickPending && !decide (arbitrate s = .sched)⟩ := by
  have hbusy : s.tx.owner ≠ .nobody → arbitrate s ≠ .sched := fun ho ha => ho ((arbitrate_eq_sched s).mp ha).1
  rcases txCycle_cases s with ⟨-, ha, e⟩ | ⟨-, -, e⟩ | ⟨ho, -, e⟩ | ⟨ho, -, e⟩ <;> rw [e]
  · simp [ha]
  · rw [engineCycle_tick]
    exact grantEffects_tick _ s
  · simp [hbusy ho]
  · simp [hbusy ho]

/-- Settles O44: the tick generator finds the tick as the grant has left it. -/
theorem tickGeneratorRaisesTicks : Obligations.TickGeneratorRaisesTicks := by
  intro s i hi ticks
  have hcycle : (cycle i s).tick = (tickCycle (receiverCycle i (beforeReceiver s))).tick := by
    simp [cycle, hi, runCycle, beforeReceiver, clockPins]
  have htick : (receiverCycle i (beforeReceiver s)).tick =
      ⟨s.tick.tickDiv, s.tick.tickPending && !decide (arbitrate s = .sched)⟩ := by
    rw [receiverCycle_tick, beforeReceiver, clockPins, observe_tick, drivePins_tick, txCycle_tick]
    rfl
  have hmode : (receiverCycle i (beforeReceiver s)).mode = s.mode := by simp [beforeReceiver, clockPins]
  rw [hcycle, tickCycle_tick, htick, hmode, receiverCycle_cfg, beforeReceiver_cfg]
  simp only [ticks]
  split <;> exact ⟨rfl, rfl⟩

/-! ### Where effect state changes (R239) -/

theorem effectsKept_finalEffects {x : Owner} (hs : x ≠ .sched) (hf : x ≠ .frame) (s : State) :
    EffectsKept s (finalEffects x s) := by
  cases x
  case sched => exact absurd rfl hs
  case frame => exact absurd rfl hf
  all_goals simp [EffectsKept, finalEffects]

theorem effectsKept_txCycle {s : State} (h : ¬ (s.tx.txPhase = .final ∧ (s.tx.owner = .sched ∨ s.tx.owner = .frame))) :
    EffectsKept s (txCycle s) := by
  rcases txCycle_cases s with ⟨-, -, e⟩ | ⟨-, -, e⟩ | ⟨-, hp, e⟩ | ⟨-, -, e⟩ <;> rw [e]
  case inr.inr.inl =>
    exact effectsKept_finalEffects (fun ho => h ⟨hp, .inl ho⟩) (fun ho => h ⟨hp, .inr ho⟩) s
  all_goals simp [EffectsKept]

/-- Settles O46: of the agents of a cycle only the end of a SCHED or FRAME transaction writes effect state. -/
theorem effectsChangeInFinalCyclesOnly : Obligations.EffectsChangeInFinalCyclesOnly := by
  intro s i hi h
  have htx : EffectsKept s (txCycle (clearDone s)) := effectsKept_txCycle (s := clearDone s) h
  simpa [EffectsKept, cycle, hi, runCycle] using htx

end Sys2Proof.Machine

/-! # Proofs: transactions, arbiter and events (60_exceptions.md) -/

namespace Sys2Proof.Machine

/-! ### The step (R285, R286, R290) -/

/-- Settles O5: the step takes the schedule's next item, and a transaction is fetched, decoded and executed. -/
theorem stepExecutesTheDecodedOperation : Obligations.StepExecutesTheDecodedOperation := by
  intro s rest
  refine ⟨fun e i hq hf hd => ?_, fun i hq => ?_, fun hq => ?_⟩
  · have hf' : fetch { s with schedule := rest } = some e := hf
    simp only [step, hq, transaction, hf', hd]
  · simp only [step, hq]
  · simp only [step, hq]

/-- Settles O7: each form an operation can take ends in a next state. -/
theorem everyOperationCompletes : Obligations.EveryOperationCompletes := exec_completes

/-! ### The arbiter (R280, R281, R285) -/

/-- The bus after the transaction's part of a cycle: granted if free, free after a final cycle, otherwise kept (R285). -/
theorem txCycle_owner (s : State) :
    (txCycle s).tx.owner =
      if s.tx.owner = .nobody then arbitrate s else if s.tx.txPhase = .final then .nobody else s.tx.owner := by
  rcases txCycle_cases s with ⟨ho, ha, e⟩ | ⟨ho, -, e⟩ | ⟨ho, hp, e⟩ | ⟨ho, hp, e⟩ <;> rw [e]
  · rw [engineCycle_owner, if_pos ho, ha, ho]
  · rw [engineCycle_owner, openTx_owner, if_pos ho]
  · rw [if_neg ho, if_pos hp]
    rfl
  · rw [engineCycle_owner, if_neg ho, if_neg hp]

/-- The choice on a free bus, request by request (R285). -/
theorem arbitrate_of_free {s : State} (h : s.tx.owner = .nobody) :
    arbitrate s =
      if s.tick.tickPending then .sched
      else if s.cfg.arbFg = .frameFirst then
        (if s.hold.holdFull then .frame else if s.host.hostPending then .host else .nobody)
      else (if s.host.hostPending then .host else if s.hold.holdFull then .frame else .nobody) := by
  rw [arbitrate, if_neg (not_not_intro h), foreground]
  cases s.cfg.arbFg <;> rfl

/-- Settles O39: of the agents of a cycle the transaction alone writes the owner. -/
theorem arbiterGrantsByPriority : Obligations.ArbiterGrantsByPriority := by
  intro s i hi
  have hcycle : (cycle i s).tx.owner = (txCycle (clearDone s)).tx.owner := by simp [cycle, hi, runCycle]
  rw [hcycle, txCycle_owner]
  by_cases ho : s.tx.owner = .nobody
  · have hfree : (clearDone s).tx.owner = .nobody := ho
    rw [if_pos hfree, if_pos ho, arbitrate_of_free hfree]
    rfl
  · have hbusy : (clearDone s).tx.owner ≠ .nobody := ho
    rw [if_neg hbusy, if_neg ho]
    rfl

end Sys2Proof.Machine

namespace Sys2Proof.Machine

/-! ### STATUS in a cycle (R142, R272 to R276) -/

theorem HostErr.code_eq_zero {e : HostErr} : e.code = 0 ↔ e = .ok := by cases e <;> decide

/-- The end of a host command clears STATUS after an accepted READ_STATUS and sets `HOST_ERR` after a rejection
(R142, R276). -/
theorem finishHost_status (p : HostPlan) (s : State) :
    (finishHost p s).status =
      (if p.err = .ok ∧ p.data = .status then 0 else s.status) ||| (if p.err ≠ .ok then 0x10 else 0) := by
  rcases finishHost_cases s p with ⟨b, he, hd, e⟩ | ⟨he, hd, e⟩ | ⟨he, e⟩ <;> rw [e]
  · simp [he, hd]
  · simp [he, hd]
  · simp [he, rejectHost, StatusFlag.bit]

/-- READ_STATUS alone is accepted with STATUS as its answer, by its one word (R96, R142). -/
theorem hostPlan_reads_status_iff {w : HostWord} {s : State} :
    (hostPlan w s).err = .ok ∧ (hostPlan w s).data = .status ↔ w = 0x60000000 := by
  refine ⟨fun h => word_of_hostPlan_status h.2, ?_⟩
  rintro rfl
  rw [hostPlan_readStatus]
  exact ⟨rfl, rfl⟩

/-- A host word is rejected exactly when one of the checks of R98 fails. -/
theorem hostPlan_rejects_iff {w : HostWord} {s : State} : (hostPlan w s).err ≠ .ok ↔ hostVerdict w s.bus ≠ 0 := by
  rw [← hostPlan_code, Ne, Ne, HostErr.code_eq_zero]

/-- The frame a FRAME transaction holds names a chip (R37). -/
theorem HoldOk.names_chip {s : State} (h : HoldOk s) (ho : s.tx.owner = .frame) : ∃ c, frameChip s.hold.hold = some c := by
  obtain ⟨hlegal, hfull⟩ := h
  have hle := hlegal (hfull ho)
  refine Option.ne_none_iff_exists'.mp fun hnone => ?_
  have hbad := frameChip_eq_none.mp hnone
  omega

/-- Of the final effects only those of a host command reach STATUS (R181, R229, R276). -/
theorem finalEffects_status {s : State} (h : HoldOk s) :
    (finalEffects s.tx.owner s).status =
      (if s.tx.owner = .host ∧ s.host.hostCmd = 0x60000000 then 0 else s.status) |||
      (if s.tx.owner = .host ∧ hostVerdict s.host.hostCmd s.bus ≠ 0 then 0x10 else 0) := by
  cases ho : s.tx.owner <;> simp only [finalEffects]
  case nobody => simp
  case sched => simp
  case frame =>
    obtain ⟨c, hc⟩ := h.names_chip ho
    simp [hc]
  case host => simp only [finishHost_status, hostPlan_reads_status_iff, hostPlan_rejects_iff, true_and]

/-- STATUS after the transaction's part of a cycle: the end of a host command is the only part that reaches it. -/
theorem txCycle_status {s : State} (h : HoldOk s) :
    (txCycle s).status =
      (if s.tx.owner = .host ∧ s.tx.txPhase = .final ∧ s.host.hostCmd = 0x60000000 then 0 else s.status) |||
      (if s.tx.owner = .host ∧ s.tx.txPhase = .final ∧ hostVerdict s.host.hostCmd s.bus ≠ 0 then 0x10 else 0) := by
  rcases txCycle_cases s with ⟨ho, -, e⟩ | ⟨ho, -, e⟩ | ⟨-, hp, e⟩ | ⟨-, hp, e⟩ <;> rw [e]
  · simp [ho]
  · simp [ho]
  · simp only [releaseBus_status, finalEffects_status h, hp, true_and]
  · simp [hp]

/-- A cycle with no byte: a partial frame is dropped when it times out (R173). -/
theorem receiveNothing_status (s : State) :
    (receiveNothing s).status =
      s.status ||| (if s.rx.rxCount.val ≠ 0 ∧ s.rx.rxIdle = s.cfg.rxTimeout - 1 then 0x01 else 0) := by
  have hcount : s.rx.rxCount = 0 ↔ s.rx.rxCount.val = 0 := Fin.ext_iff
  simp only [receiveNothing, hcount]
  split
  · next h => simp [h]
  · next h =>
    split
    · next ht => simp [dropPartial, h, ht, StatusFlag.bit]
    · next ht => simp [ht]

/-- A byte: a frame it completes is dropped for its chip or for a full hold (R174, R175). -/
theorem receiveByte_status (b : Byte) (s : State) :
    let frame : Frame := s.rx.rxBuf.push b
    (receiveByte b s).status =
      s.status ||| (if s.rx.rxCount.val = 16 ∧ 3 ≤ frame[0].toNat then 0x02 else 0) |||
      (if s.rx.rxCount.val = 16 ∧ frame[0].toNat ≤ 2 ∧ s.hold.holdFull = true then 0x04 else 0) := by
  intro frame
  by_cases hroom : s.rx.rxCount.val < 16
  · have hpartial : s.rx.rxCount.val ≠ 16 := by omega
    simp [receiveByte_of_room b hroom, hpartial]
  · have hfull : s.rx.rxCount.val = 16 := by omega
    rw [receiveByte_of_full b hfull]
    rcases completeFrame_cases frame { s with rx := ⟨s.rx.rxBuf, 0, 0⟩ } with
      ⟨hbad, e⟩ | ⟨hgood, hheld, e⟩ | ⟨hgood, hfree, e⟩ <;> rw [e]
    · have hchip : ¬ frame[0].toNat ≤ 2 := by omega
      simp [hfull, hbad, hchip, StatusFlag.bit]
    · have hchip : frame[0].toNat ≤ 2 := by omega
      have hheld' : s.hold.holdFull = true := hheld
      simp [hfull, hgood, hchip, hheld', StatusFlag.bit]
    · have hfree' : s.hold.holdFull = false := hfree
      simp [hgood, hfree']

/-- The receiver's flags in a cycle (R173 to R175). -/
theorem receiverCycle_status (i : PinsIn) (s : State) :
    let frame : Frame := s.rx.rxBuf.push i.rxData
    (receiverCycle i s).status =
      s.status |||
      (if i.rxValid = false ∧ s.rx.rxCount.val ≠ 0 ∧ s.rx.rxIdle = s.cfg.rxTimeout - 1 then 0x01 else 0) |||
      (if (i.rxValid = true ∧ s.rx.rxCount.val = 16) ∧ 3 ≤ frame[0].toNat then 0x02 else 0) |||
      (if (i.rxValid = true ∧ s.rx.rxCount.val = 16) ∧ frame[0].toNat ≤ 2 ∧ s.hold.holdFull = true then 0x04 else 0) := by
  intro frame
  unfold receiverCycle
  split
  · next hv => simp [receiveByte_status, hv, frame]
  · next hv => simp [receiveNothing_status, hv]

/-- A tick that finds one pending is lost (R283). -/
theorem tickCycle_status (s : State) :
    (tickCycle s).status =
      s.status |||
      (if s.tick.tickDiv = s.cfg.tickPeriod s.mode - 1 ∧ s.tick.tickPending = true then 0x08 else 0) := by
  unfold tickCycle
  split
  · next ht => cases hp : s.tick.tickPending <;> simp [raiseTick, hp, ht, StatusFlag.bit]
  · next ht => simp [ht]

@[simp] theorem beforeReceiver_mode (s : State) : (beforeReceiver s).mode = s.mode := by simp [beforeReceiver, clockPins]

/-- The hold register as the receiver finds it: released if this is a FRAME's final cycle (R181, R287). -/
theorem beforeReceiver_hold (s : State) :
    (beforeReceiver s).hold =
      if s.tx.owner = .frame ∧ s.tx.txPhase = .final then { s.hold with holdFull := false } else s.hold := by
  simp only [beforeReceiver, clockPins_hold, txCycle_hold]
  rfl

theorem beforeReceiver_holdFull (s : State) :
    (beforeReceiver s).hold.holdFull = true ↔
      s.hold.holdFull = true ∧ ¬ (s.tx.owner = .frame ∧ s.tx.txPhase = .final) := by
  rw [beforeReceiver_hold]
  split <;> simp [*]

/-- The tick generator as the tick finds it: a SCHED grant of this cycle has taken the pending tick (R280, R287). -/
theorem beforeReceiver_tick (s : State) :
    (beforeReceiver s).tick = ⟨s.tick.tickDiv, s.tick.tickPending && !decide (arbitrate s = .sched)⟩ := by
  rw [beforeReceiver, clockPins, observe_tick, drivePins_tick, txCycle_tick]
  rfl

/-- STATUS as the receiver finds it. -/
theorem beforeReceiver_status {s : State} (h : HoldOk s) :
    (beforeReceiver s).status =
      (if s.tx.owner = .host ∧ s.tx.txPhase = .final ∧ s.host.hostCmd = 0x60000000 then 0 else s.status) |||
      (if s.tx.owner = .host ∧ s.tx.txPhase = .final ∧ hostVerdict s.host.hostCmd s.bus ≠ 0 then 0x10 else 0) := by
  rw [beforeReceiver, clockPins, observe_status, drivePins_status, txCycle_status (s := clearDone s) h]
  rfl

/-- Flags are set in any order (R276). -/
theorem or_second_last (a b c d e f : BitVec 8) :
    a ||| b ||| c ||| d ||| e ||| f = a ||| c ||| d ||| e ||| f ||| b := by ac_rfl

/-- Settles O45: the transaction, the receiver and the tick generator set their flags one after another, and the end of
READ_STATUS clears STATUS before the others. -/
theorem statusCollectsTheCyclesEvents : Obligations.StatusCollectsTheCyclesEvents := by
  intro s i hi hhold final released frame complete short badChip overrun lostTick hostErr
  have hcycle : (cycle i s).status = (tickCycle (receiverCycle i (beforeReceiver s))).status := by
    simp [cycle, hi, runCycle, beforeReceiver, clockPins]
  have hmode : (receiverCycle i (beforeReceiver s)).mode = s.mode := by simp
  have hlost : ∀ b : Bool, (b && !decide (arbitrate s = .sched)) = true ↔ b = true ∧ arbitrate s ≠ .sched := by simp
  rw [hcycle, tickCycle_status, hmode, receiverCycle_cfg, receiverCycle_tick, beforeReceiver_tick, receiverCycle_status,
    beforeReceiver_rx, beforeReceiver_cfg, beforeReceiver_status hhold]
  simp only [beforeReceiver_holdFull, hlost]
  exact or_second_last _ _ _ _ _ _

end Sys2Proof.Machine

namespace Sys2Proof.Machine

/-! ### Grant and Complete (R291, R292) -/

/-- The machine with another sequencer. -/
def withTx (q : Sequencer) (s : State) : State := { s with tx := q }

@[simp] theorem withTx_hold (q : Sequencer) (s : State) : (withTx q s).hold = s.hold := rfl

/-- An operation that does not meet the sequencer: it does the same whatever it holds, and leaves it alone. -/
def TxBlind (f : State → State) : Prop := ∀ q s, f (withTx q s) = withTx q (f s)

theorem TxBlind.comp {f g : State → State} (hg : TxBlind g) (hf : TxBlind f) : TxBlind (fun s => g (f s)) :=
  fun q s => (congrArg g (hf q s)).trans (hg q (f s))

theorem txBlind_dataPhase (c : Chip) (r : RegAddr) (v : Byte) : TxBlind (dataPhase c r v) := by
  intro q s
  cases h : s.latch.get c <;> simp [dataPhase, chipStores, withTx, h] <;> rfl

theorem txBlind_selectIfNeeded (c : Chip) : TxBlind (selectIfNeeded c) := fun q s =>
  (apply_ite (withTx q) (s.bus.selCache = some c) s (busSelect c s)).symm

theorem txBlind_busWrite (c : Chip) (r : RegAddr) (v : Byte) : TxBlind (busWrite c r v) :=
  have haddr : TxBlind (addressPhase c r) := fun _ _ => rfl
  (txBlind_dataPhase c r _).comp (haddr.comp (txBlind_selectIfNeeded c))

theorem txBlind_runJob (j : JobReq) : TxBlind (fun s => runJob s j) := by
  intro q s
  have hkind : resolve j (withTx q s) = resolve j s := rfl
  simp only [runJob, hkind]
  split
  · rfl
  · exact txBlind_busWrite _ _ _ q s
  · exact txBlind_dataPhase _ _ _ q s

theorem txBlind_runJobs (js : List JobReq) : TxBlind (runJobs js) := by
  induction js with
  | nil => exact fun _ _ => rfl
  | cons j js ih => exact ih.comp (txBlind_runJob j)

theorem txBlind_finishHost (p : HostPlan) : TxBlind (finishHost p) := by
  intro q s
  rcases p with ⟨e, js, d⟩
  cases e <;> cases d <;> rfl

theorem txBlind_frameFinal (c : Chip) (f : Frame) : TxBlind (frameFinal c f) := by
  intro q s
  unfold frameFinal frameSlots slot2Apply
  split <;> rfl

theorem txBlind_finalEffects (x : Owner) : TxBlind (finalEffects x) := by
  intro q s
  cases x
  case nobody | sched => rfl
  case frame =>
    simp only [finalEffects, withTx_hold]
    split
    · exact txBlind_frameFinal _ _ q s
    · rfl
  case host =>
    simp only [finalEffects, hostPlan_congr (u := withTx q s) (a := s) rfl rfl]
    exact txBlind_finishHost _ q s

/-- The pulse `h_done_o` that a grant has cleared stays down. -/
theorem clearDone_openTx (x : Owner) (s : State) : clearDone (openTx x (clearDone s)) = openTx x (clearDone s) := by
  cases x
  case frame =>
    unfold openTx grantEffects
    dsimp only
    split <;> rfl
  all_goals rfl

/-- Complete right after the grant runs every job of the transaction, and its final effects (R291). -/
theorem completeTx_openTx (x : Owner) (s : State) :
    completeTx (openTx x (clearDone s)) = closeTx (grantJobs x s) (finalEffects x (afterJobs x s)) := by
  have hjobs : (openTx x (clearDone s)).tx.txJobs = grantJobs x s := by rw [openTx_tx, grantJobs_clearDone]
  have hopen : openTx x (clearDone s) =
      withTx (openTx x (clearDone s)).tx (grantEffects x (clearDone s)) := rfl
  have hidx : (openTx x (clearDone s)).tx.txIdx = 0 := rfl
  rw [completeTx, hjobs, hidx, List.drop_zero, openTx_owner, hopen, txBlind_runJobs, txBlind_finalEffects]
  rfl

/-- Settles O50: the grant leaves all jobs to run, and running them does not meet the sequencer that lists them. -/
theorem grantThenCompleteIsTheTransaction : Obligations.GrantThenCompleteIsTheTransaction := by
  intro s hx hidle
  refine ⟨openTx (arbitrate s) (clearDone s), _, if_pos ⟨hx, rfl, hidle⟩, ?_, transaction_eq hx⟩
  have hready : (openTx (arbitrate s) (clearDone s)).tx.owner ≠ .nobody ∧
      (openTx (arbitrate s) (clearDone s)).be.beState = .idle := ⟨hx, by simpa using hidle⟩
  rw [event, if_pos hready, clearDone_openTx, completeTx_openTx]

end Sys2Proof.Machine

/-! # Proofs: reset and hazards (70_reset_and_hazards.md) -/

namespace Sys2Proof.Machine

/-! ### The reset state (R310) -/

/-- The inputs of a reset cycle with the strap at `m`. -/
def PinsIn.strap (m : Mode) : PinsIn := { PinsIn.idle with rst := true, cfgMode := m }

/-- The reset state is what a reset cycle makes of itself: the engine is idle, so the reset cuts no job and the chips stay
(R313). What holds after every reset cycle therefore holds of it. -/
theorem resetCycle_resetWith (cfg : Config) (m : Mode) :
    resetCycle (.strap m) (State.resetWith cfg m) = State.resetWith cfg m := rfl

theorem effectsOk_resetWith (cfg : Config) (m : Mode) : EffectsOk (State.resetWith cfg m) :=
  resetCycle_resetWith cfg m ▸ effectsOk_resetCycle (.strap m) (State.resetWith cfg m)

theorem busInv_resetWith {cfg : Config} (h : cfg.Wf) (m : Mode) : BusInv (State.resetWith cfg m) :=
  resetCycle_resetWith cfg m ▸ busInv_resetCycle (s := State.resetWith cfg m) h (.strap m)

/-- An empty hold register asks nothing of the frame, and no transaction runs. -/
theorem holdOk_resetWith (cfg : Config) (m : Mode) : HoldOk (State.resetWith cfg m) :=
  ⟨fun hf => (nomatch hf), fun ho => nomatch ho⟩

theorem receiverOk_resetWith {cfg : Config} (h : cfg.Wf) (m : Mode) : ReceiverOk (State.resetWith cfg m) :=
  (receiverLegal_idle_zero (rxTimeout_pos h) (.replicate 16 0) 0).2

theorem tickOk_resetWith {cfg : Config} (h : cfg.Wf) (m : Mode) : TickOk (State.resetWith cfg m) :=
  tickPeriod_pos h m

/-- Nothing has been seen on the bus, and no job runs. -/
theorem maskedOk_resetWith (cfg : Config) (m : Mode) : MaskedOk (State.resetWith cfg m) :=
  ⟨fun _ _ _ hv => (nomatch hv), fun hbusy => absurd rfl hbusy⟩

/-- No chip register is known yet. -/
theorem shadowAgrees_resetWith (cfg : Config) (m : Mode) : ShadowAgrees (State.resetWith cfg m) :=
  fun _ _ _ hread => nomatch hread

/-- Settles O55: the constraints on the parameters matter to the receiver, the tick divider and the bus alone. -/
theorem resetIsGood : Obligations.ResetIsGood := by
  intro cfg m hwf
  have hstatus : StatusOk (State.resetWith cfg m) := BitVec.zero_and
  have herr : HostErrOk (State.resetWith cfg m) := Nat.zero_le 5
  exact ⟨effectsOk_resetWith cfg m, hstatus, herr, holdOk_resetWith cfg m, receiverOk_resetWith hwf m,
    tickOk_resetWith hwf m, Memory.wf_nil, busInv_resetWith hwf m, maskedOk_resetWith cfg m, shadowAgrees_resetWith cfg m⟩

end Sys2Proof.Machine
